-- ==== Sys2Proof/Word.lean ====
section
/-! DEFINITION. The words of the KS40 and the index types of its tables: bytes, positions, counts, lanes, slots,
stack numbers and counter numbers. -/

namespace Sys2Proof

/-- One byte of a frame or message (R189, R196). -/
abbrev Byte := BitVec 8

/-- A web position: the modular 32-bit count of R1 and R2. -/
abbrev Pos := BitVec 32

/-- A row number, modulo 2^32 (R16). -/
abbrev RowNo := BitVec 32

/-- A statistic: 16 bits, saturating (00_scope.md, Conventions, Counts). -/
abbrev Count := BitVec 16

/-- A lane, held as its index 0 to 11: the manual's lane number is the index plus one. -/
abbrev Lane := Fin 12

/-- A stack record number, 0 to 63. -/
abbrev StackNo := Fin 64

/-- A job slot, 0 to 15. -/
abbrev JobSlot := Fin 16

/-- A condition counter, 0 to 3. -/
abbrev CounterNo := Fin 4

/-- A slot of the row ring, 0 to 127 (R23). -/
abbrev RingSlot := Fin 128

end Sys2Proof
end

