-- ==== Sys2Proof/Syntax.lean ====
section
/-! DEFINITION. The commands of the KS40: one constructor of `Instr` per row of spec/opcode_table.json, with the operands
that the pulse, message, request frame or event of the row carries. -/

namespace Sys2Proof

/-- One transition of the encoder pair ENC_A, ENC_B (R1). -/
inductive EncoderStep
  | forward | backward | invalid
  deriving DecidableEq, Repr, Inhabited

/-- The fields of a GEOMETRY WRITE payload in the order and the widths of R197. -/
structure GeometryPayload where
  pNom : BitVec 16
  wMark : BitVec 16
  lossLimit : BitVec 8
  dDie : BitVec 24
  wDie : BitVec 16
  oCut : BitVec 16
  dGate : BitVec 24
  lMin : BitVec 16
  lMax : BitVec 16
  upstream : BitVec 32
  lead : BitVec 16
  trail : BitVec 16
  rRev : BitVec 16
  filterShift : BitVec 8
  gain : BitVec 8
  slew : BitVec 16
  lTrim : BitVec 16
  tol : BitVec 16
  wOut : BitVec 16
  nSettle : BitVec 8
  capacity : BitVec 8
  watermark : BitVec 8
  shuttleTimeout : BitVec 16
  jamLimit : BitVec 8
  arbiter : BitVec 8
  inspection : BitVec 8
  verdictRate : BitVec 8
  trimRate : BitVec 8
  savedTrim : BitVec 16
  deriving DecidableEq, Repr, Inhabited

/-- The fields of a JOB WRITE payload (R193). The name is its 16 bytes. -/
structure JobPayload where
  slot : BitVec 8
  jobId : BitVec 16
  name : List Byte
  target : BitVec 16
  serialMode : BitVec 8
  step : BitVec 8
  gapLimit : BitVec 8
  sampleEnable : BitVec 8
  sampleValue : BitVec 8
  sampleMask : BitVec 8
  firstOrdinal : BitVec 16
  deriving DecidableEq, Repr, Inhabited

/-- The fields of a LANE WRITE payload (R193). -/
structure LanePayload where
  lane : BitVec 8
  enabled : BitVec 8
  slot : BitVec 8
  priority : BitVec 8
  weight : BitVec 8
  originPresent : BitVec 8
  origin : BitVec 32
  deriving DecidableEq, Repr, Inhabited

/-- The fields of a COUNTER WRITE payload (R193). -/
structure CounterPayload where
  counter : BitVec 8
  laneSet : BitVec 16
  mask : BitVec 16
  unit : BitVec 8
  mode : BitVec 8
  window : BitVec 16
  threshold : BitVec 16
  action : BitVec 8
  deriving DecidableEq, Repr, Inhabited

/-- A transfer under way when a reset begins (R189): the bytes clocked before the reset, while it is in progress and after
its end. -/
structure CutTransfer where
  before : Nat
  within : Nat
  after : Nat
  deriving DecidableEq, Repr, Inhabited

/-- What happens at the part's edges while a reset is in progress. `pfailFrom` says before which step of the reset PFAIL is
asserted (R186), `none` when it is not. `trimSent` is how many characters of the trim message being sent leave the part
whole: at a warm reset the ones begun by then, for the one being sent is completed (R77). `cut` is the transfer that the
reset finds under way (R189), and `begun` the byte counts of the transfers that begin while it is in progress (R191). -/
structure ResetCourse where
  pfailFrom : Option Nat
  trimSent : Nat
  cut : Option CutTransfer
  begun : List Nat
  deriving DecidableEq, Repr, Inhabited

/-- A reset that PFAIL and the port's host leave alone, with all six characters of a trim message begun. -/
def ResetCourse.quiet : ResetCourse where
  pfailFrom := none
  trimSent := 6
  cut := none
  begun := []

/-- The commands. Requests carry the raw fields of their payloads, so that every check of a value is in their meanings; the
three resets carry what happens at the part's edges while they are in progress. -/
inductive Instr
  /- web position -/
  | encoderTransition (e : EncoderStep)
  | reverseEvent
  | mark
  | syntheticMark
  | lossLimit
  | riseToTracking
  | splice
  | spliceZoneExpiry
  | spacingReferenceExpiry
  /- die register -/
  | dieIndex
  | dieWindowEnd
  | trimMessageSent
  /- verdict link: a character, or `none` for one with a framing error -/
  | verdictCharacter (c : Option Byte)
  | idleGap
  /- gates, counters and landing -/
  | gatePoint
  | windowPublish (c : CounterNo)
  | thresholdReached (c : CounterNo)
  | pocket (l : Lane)
  | landingWindowEnd
  | laneJammed (l : Lane)
  /- stacks, lanes, rows and jobs -/
  | stackComplete (n : StackNo)
  | heldPush (l : Lane)
  | laneUnblock
  | rowRetire
  | slotEmpty (j : JobSlot)
  | drainComplete
  /- shuttle and delivery -/
  | shuttleGrant
  | done
  | fault
  | transferTimeout
  | taken
  /- power and reset -/
  | pfailAssert
  | savedTrimWrite
  | pfailNegate (course : ResetCourse)
  | coldReset (course : ResetCourse)
  /- requests -/
  | status (clearMask : BitVec 16) (qualityClear : Byte) (page : Byte)
  | attentionMask (enabled : BitVec 16)
  | modeRun
  | modePark
  | reset (course : ResetCourse)
  | geometryWrite (p : GeometryPayload)
  | geometryRead
  | offsetNudge (delta : BitVec 16)
  | jobWrite (p : JobPayload)
  | jobRead (slot : Byte)
  | jobEnd (slot : Byte)
  | laneWrite (p : LanePayload)
  | laneRead (lane : Byte)
  | laneClear (lane : Byte) (close : Byte)
  | stackRead (stack : Byte) (part : Byte)
  | stackList (selector : Byte) (start : Byte)
  | stackClose (lane : Byte)
  | stackTarget (stack : Byte) (value : BitVec 16)
  | stackRetire (stack : Byte)
  | stackRetireAll (stack : Byte)
  | rowRead (tag : Byte) (part : Byte)
  | rowReject (tag : Byte) (lanes : BitVec 16)
  | counterWrite (p : CounterPayload)
  | counterRead (counter : Byte)
  | shuttleClear
  /- request port: the bytes of a request transfer; the number of bytes a read transfer clocks -/
  | refusedFrame (bytes : List Byte)
  | responseRead (count : Nat)
  deriving DecidableEq, Repr

end Sys2Proof
end

