-- ==== Sys2Proof/Decode.lean ====
section
/-! DEFINITION. The table's words. No row of spec/opcode_table.json gives bits (each has an empty list of fields and no
fixed bits), so no word spells a command: the commands are pulses, messages and events. The request frames of the request
port are read byte by byte in Machine/Port.lean, from R190 and R193. -/

namespace Sys2Proof

/-- The command that a word spells by the table's bits: none, since no row of the table gives bits. -/
def decodeTableWord (_nbits _w : Nat) : Option Instr := none

end Sys2Proof
end

