-- ==== Sys2Proof/Machine/Records.lean ====
section
/-! DEFINITION. The records of the KS40 as plain data: row records (Chapter 2), the geometry record (Chapter 4), job and
lane records (Chapter 6), stack records (Chapter 7), counter configurations (Chapter 9), and the named values their
fields take. -/

namespace Sys2Proof.Machine

/-! ## Named values -/

/-- Line modes (R160). -/
inductive LineMode | parked | seek | tracking | draining
  deriving DecidableEq, Repr, Inhabited

/-- Target modes (R160). -/
inductive TargetMode | park | run
  deriving DecidableEq, Repr, Inhabited

/-- Link rates of R60, in the order of their codes in R197. -/
inductive LinkRate | b115200 | b230400 | b460800 | b921600
  deriving DecidableEq, Repr, Inhabited

/-- Arbiter modes (R142, R143), in the order of their codes in R197. -/
inductive ArbiterMode | strict | weighted
  deriving DecidableEq, Repr, Inhabited

/-- Inspection modes (R53), in the order of their codes in R197. -/
inductive InspectionMode | required | advisory
  deriving DecidableEq, Repr, Inhabited

/-- The thirteen waste reasons in the order of the gate precedence (R80, R166). -/
inductive WasteReason
  | laneOff | jam | reverse | marklost | settling | splice | miscut | misreg
  | print | blank | manual | noverdict | blocked
  deriving DecidableEq, Repr, Inhabited

/-- A skip cause or gap cause: a waste reason, SAMPLE, LOST or RESUME (R87, R118). -/
inductive Cause
  | waste (r : WasteReason) | sample | lost | resume
  deriving DecidableEq, Repr, Inhabited

/-- Camera verdicts, in the order of their rank (R46). -/
inductive Camera | pending | good | print | blank
  deriving DecidableEq, Repr, Inhabited

/-- The fate of one label (R28, R80). A WASTE carries its reason, a STACK its stack number. -/
inductive Disposition
  | undecided | stack (n : StackNo) | waste (r : WasteReason) | sample
  deriving DecidableEq, Repr, Inhabited

/-- Landing states (R28). -/
inductive Landing | none | awaiting | landed | lost
  deriving DecidableEq, Repr, Inhabited

/-- Row phases (Chapter 2, section 2.3). -/
inductive Phase | opened | cut | decided | retired
  deriving DecidableEq, Repr, Inhabited

/-- Row origins (R16). -/
inductive Origin | mark | synthetic
  deriving DecidableEq, Repr, Inhabited

/-- The gate setting of a lane (R86). -/
inductive Gate | waste | stack | sample
  deriving DecidableEq, Repr, Inhabited

/-- Why a lane is BLOCKED (R84). -/
inductive BlockedCause | slots | noRecord
  deriving DecidableEq, Repr, Inhabited

/-- The run state of a lane (section 5.5); a BLOCKED lane carries its blocked cause. -/
inductive RunState | off | active | blocked (c : BlockedCause) | jammed
  deriving DecidableEq, Repr, Inhabited

/-- The row origin of a lane (R108). -/
inductive RowOrigin | none | pending | row (r : RowNo)
  deriving DecidableEq, Repr, Inhabited

/-- Job slot states (R100). -/
inductive SlotState | empty | active | ending | damaged
  deriving DecidableEq, Repr, Inhabited

/-- Serial modes (R100). -/
inductive SerialMode | none | up | down
  deriving DecidableEq, Repr, Inhabited

/-- Quarantine causes (R117). -/
inductive QuarantineCause | transfer | damaged
  deriving DecidableEq, Repr, Inhabited

/-- Stack states (section 7.2); a QUARANTINED record carries its cause. -/
inductive StackState
  | free | opened | sealed | held | ready | transfer | delivered | quarantined (c : QuarantineCause)
  deriving DecidableEq, Repr, Inhabited

/-- Seal reasons (R125), in the order of their codes in R192. -/
inductive SealReason | target | close | gapLimit | serialBreak | jobChange | jobEnd | laneOff
  deriving DecidableEq, Repr, Inhabited

/-- What a condition counter counts (R166). -/
inductive CounterUnit | label | row
  deriving DecidableEq, Repr, Inhabited

/-- Counter modes (R166). -/
inductive CounterMode | window | accumulate
  deriving DecidableEq, Repr, Inhabited

/-- Counter actions (R166). -/
inductive CounterAction | attn | stop
  deriving DecidableEq, Repr, Inhabited

/-- States of the verdict receiver (R43). -/
inductive ReceiverState | hunt | idle | receiving
  deriving DecidableEq, Repr, Inhabited

/-- Status values of a response (R190). -/
inductive Status | ok | errFrame | errCode | errArg | errState | errNotHead | errDamaged | errPower
  deriving DecidableEq, Repr, Inhabited

/-! ## The row record -/

/-- The eight row flags of R26. -/
structure RowFlags where
  splice : Bool
  misreg : Bool
  miscut : Bool
  marklost : Bool
  settling : Bool
  reverse : Bool
  trimLimit : Bool
  trimHeld : Bool
  deriving DecidableEq, Repr, Inhabited

/-- One lane's entry of a row record (section 2.2.1). -/
structure LaneEntry where
  snapshot : Option JobSlot
  camera : Camera
  manual : Bool
  disposition : Disposition
  landing : Landing
  serial : Option Nat
  deriving DecidableEq, Repr, Inhabited

/-- A row record (section 2.2). The tag is the row number modulo 256. -/
structure RowRecord where
  number : RowNo
  origin : Origin
  mark : Pos
  expected : Pos
  dieIndex : Option Pos
  rawError : Option Int
  flags : RowFlags
  phase : Phase
  lanes : Vector LaneEntry 12
  deriving DecidableEq, Repr, Inhabited

/-! ## Retentive records -/

/-- The fields of the geometry record other than the saved trim (R60). Each block's working copy holds the same fields. -/
structure Settings where
  pNom : Nat
  wMark : Nat
  lossLimit : Nat
  dDie : Nat
  wDie : Nat
  oCut : Int
  dGate : Nat
  lMin : Nat
  lMax : Nat
  upstream : Nat
  lead : Nat
  trail : Nat
  rRev : Nat
  filterShift : Nat
  gain : Nat
  slew : Nat
  lTrim : Nat
  tol : Nat
  wOut : Nat
  nSettle : Nat
  capacity : Nat
  watermark : Nat
  shuttleTimeout : Nat
  jamLimit : Nat
  arbiter : ArbiterMode
  inspection : InspectionMode
  verdictRate : LinkRate
  trimRate : LinkRate
  deriving DecidableEq, Repr, Inhabited

/-- The geometry record (R60, R178): its damaged indication, its settings and the saved trim. -/
structure GeometryRecord where
  damaged : Bool
  settings : Settings
  savedTrim : Int
  deriving DecidableEq, Repr, Inhabited

/-- A job record (R100). The name is held as its 16 bytes, padded with 0x00. -/
structure JobRecord where
  state : SlotState
  jobId : BitVec 16
  name : List Byte
  target : Nat
  serialMode : SerialMode
  step : Nat
  gapLimit : Nat
  sampleEnable : Bool
  sampleValue : BitVec 6
  sampleMask : BitVec 6
  nextOrdinal : BitVec 16
  deriving DecidableEq, Repr, Inhabited

/-- The retentive part of a lane record (R108, R178). -/
structure LaneRecord where
  damaged : Bool
  enabled : Bool
  slot : Option JobSlot
  origin : Nat
  priority : Nat
  weight : Nat
  deriving DecidableEq, Repr, Inhabited

/-- One entry of a gap list (R118). -/
structure Gap where
  start : Nat
  length : Nat
  cause : Cause
  deriving DecidableEq, Repr, Inhabited

/-- The serial part of a stack record (R118). -/
structure SerialPart where
  first : Option Nat
  lastCommitted : Option Nat
  lastLanded : Option Nat
  foreseen : Nat
  gaps : List Gap
  deriving DecidableEq, Repr, Inhabited

/-- The five flags of a stack record (R124). -/
structure StackFlags where
  short : Bool
  resumed : Bool
  lateReject : Bool
  suspect : Bool
  gapsIncomplete : Bool
  deriving DecidableEq, Repr, Inhabited

/-- A stack record (R117). `lane` is the lane NUMBER 1 to 12 (0 in a record never opened or rewritten by R181). `heldCause`
is the quarantine cause that a FREE record keeps until it is opened again (R117); no response shows it (R198). -/
structure StackRecord where
  state : StackState
  heldCause : Option QuarantineCause
  lane : Nat
  slot : JobSlot
  jobId : BitVec 16
  ordinal : BitVec 16
  target : Nat
  committed : Nat
  landed : Nat
  lost : Nat
  stray : Count
  flags : StackFlags
  lateRejects : BitVec 8
  sealReason : Option SealReason
  serial : Option SerialPart
  deliverySeq : Option (BitVec 32)
  deriving DecidableEq, Repr, Inhabited

/-- The configuration of a condition counter (R166, R178). The lane set and the mask are the 16-bit sets of R192. -/
structure CounterConfig where
  damaged : Bool
  laneSet : BitVec 16
  mask : BitVec 16
  unit : CounterUnit
  mode : CounterMode
  window : Nat
  threshold : Nat
  action : CounterAction
  deriving DecidableEq, Repr, Inhabited

/-- The name of one of the 97 records of the retentive image (R178). -/
inductive RecordRef
  | geometry | job (j : JobSlot) | lane (l : Lane) | stack (n : StackNo) | counter (c : CounterNo)
  deriving DecidableEq, Repr, Inhabited

/-- One flipped bit of the image: bit 0 to 38 (32 data bits and 7 check bits) of one word of one record (R178, R179). -/
structure Flip where
  ref : RecordRef
  word : Nat
  bit : Nat
  deriving DecidableEq, Repr, Inhabited

/-- What the check code reports of one word (R179). -/
inductive WordReport | clean | single (bit : Nat) | uncorrectable
  deriving DecidableEq, Repr, Inhabited

/-! ## Messages and output events -/

/-- A trim message (R70): the row's tag, T after the resolution, and the five flags of R196. -/
structure TrimMessage where
  tag : Byte
  trim : Int
  held : Bool
  limit : Bool
  misreg : Bool
  miscut : Bool
  settling : Bool
  deriving DecidableEq, Repr, Inhabited

/-- What the part has put on an output line: a pulse on a PUSH line or on GO (with the lane on the lane select lines), the
characters of a trim message on TTX and the rate it began with, all six or those that a reset let out (R77), or the bytes a
transfer shifted out on SDO. -/
inductive Output
  | push (l : Lane) | go (l : Lane) | trim (bytes : List Byte) (rate : LinkRate) | sdo (bytes : List Byte)
  deriving DecidableEq, Repr, Inhabited

end Sys2Proof.Machine
end

