-- ==== Sys2Proof/Config.lean ====
section
/-! DEFINITION. The free values: what the manual leaves open, as constants with no body. -/

namespace Sys2Proof

open Sys2Proof.Machine

/-- FREE VALUE (log entry 5). What the check code reports of a word with three or more flipped bits: R179 says the report
is "clean", "single-bit error at a bit it names" or "uncorrectable", "according to the bits flipped", and gives no code. -/
opaque Config.eccReport : List Nat → WordReport

/-- FREE VALUE (log entry 5). The geometry record read with undetected or miscorrected words (R179): the packing of fields
into words is not given, so what such a read hands on is open. -/
opaque Config.misreadGeometry : List Flip → GeometryRecord → GeometryRecord

/-- FREE VALUE (log entry 5). As `misreadGeometry`, for a job record. -/
opaque Config.misreadJob : List Flip → JobRecord → JobRecord

/-- FREE VALUE (log entry 5). As `misreadGeometry`, for the retentive part of a lane record. -/
opaque Config.misreadLane : List Flip → LaneRecord → LaneRecord

/-- FREE VALUE (log entry 5). As `misreadGeometry`, for a stack record. -/
opaque Config.misreadStack : List Flip → StackRecord → StackRecord

/-- FREE VALUE (log entry 5). As `misreadGeometry`, for a counter configuration. -/
opaque Config.misreadCounter : List Flip → CounterConfig → CounterConfig

/-- FREE VALUE (log entry 3). Which of several thresholds that fall at one count is acted on next: R3 says only that each
is acted on "independently, each by its owner". Applied to `State.freeCount`. -/
opaque Config.orderChoice : Nat → Nat

/-- FREE VALUE (log entry 6). The step and direction used by a gap check whose job record has been rewritten by the
damage rewrite (R118 takes them from the job named by the record's slot; R181 makes them zero). Applied to
`State.freeCount`; the first component modulo 16 plus 1 is the step, the second is true for DOWN. -/
opaque Config.lostStride : Nat → Nat × Bool

/-- FREE VALUE (log entry 34). The words of the geometry record that the saved-trim write of R185 stores: R178 does not give
the packing of fields into words. Every other word keeps the check bits it had (R180). -/
opaque Config.savedTrimWord : Nat → Bool

/-- FREE VALUE (log entry 38). The words of a stack record that the write which makes it FREE stores: R178 does not give the
packing of fields into words. Every other word keeps the check bits it had (R180). -/
opaque Config.freedWord : Nat → Bool

/-- FREE VALUE (log entry 25). A byte shifted out after the end of a reset by a transfer that began before it, with a response
of which the reset cut off a part: R189 lets the transfer go on to its end, and does not say what it then shifts out. Applied
to `State.freeCount` and to the place of the byte. -/
opaque Config.sdoAfterReset : Nat → Nat → Byte

end Sys2Proof
end

