-- ==== Sys2Proof/Machine/State.lean ====
section
/-! DEFINITION. The state of the KS40 as plain data, block by block, and the state after a cold reset on the image that
log entry 8 names. -/

namespace Sys2Proof.Machine

/-- Faults: none. No rule of the spec stops the part; what it refuses it answers with a status value (R190), and that is a
next state. So nobody raises a fault, which is safe (log entry 24). -/
inductive Fault
  deriving DecidableEq, Repr

/-- Refusals. -/
inductive Refusal
  /-- Raised by exec's arm of a command that has no meaning yet, with the command's mnemonic: safe (the machine stops). No
  arm is in that case (log entry 24). -/
  | notModelled (mnemonic : String)
  deriving DecidableEq, Repr

/-- The position unit (Chapter 1; R22). Two fields are the model's own: `reverseDue`, the check after the last count found
the conditions of R5 (log entry 3), and `advanced`, the last count was an up-count that set high-water (R3; log entry 4). -/
structure PositionUnit where
  position : Pos
  highWater : Pos
  reverseArm : Bool
  expectation : Option Pos
  consecutiveSynthetic : Count
  spacing : Option Pos
  zone : Option (Pos × Pos)
  reverseDue : Bool
  advanced : Bool
  encoderErrors : Count
  earlyMarks : Count
  backMarks : Count
  idleMarks : Count
  syntheticRows : Count
  reverses : Count
  splices : Count
  deriving DecidableEq, Repr

/-- The row ring (R23): 128 slots, the next row number and the open count. -/
structure Ring where
  slots : Vector (Option RowRecord) 128
  next : RowNo
  openCount : Nat
  deriving DecidableEq, Repr

/-- The verdict receiver (Chapter 3). `kept` holds the places 1 to 6 of the partial message in order of receipt, `none`
for a character with a framing error. -/
structure VerdictReceiver where
  state : ReceiverState
  kept : List (Option Byte)
  count : BitVec 8
  spoiled : Bool
  merged : Count
  malformed : Count
  late : Count
  unknown : Count
  deriving DecidableEq, Repr

/-- The register unit (Chapter 4) with the trim transmitter: the message being sent with the rate it began at, and the
waiting messages, oldest first (R71). -/
structure RegisterUnit where
  f16 : Int
  trim : Int
  settle : Nat
  sending : Option (TrimMessage × LinkRate)
  waiting : List TrimMessage
  strayIndex : Count
  backIndex : Count
  missedCuts : Count
  outliers : Count
  overruns : Count
  deriving DecidableEq, Repr

/-- The volatile state of one lane (R98, R108). -/
structure LaneUnit where
  run : RunState
  rowOrigin : RowOrigin
  consecutiveLost : BitVec 8
  skipCause : Option Cause
  skipRow : Option RowNo
  stray : Count
  gate : Gate
  deriving DecidableEq, Repr, Inhabited

/-- The shuttle state (R140); a transfer carries its lane, its stack and the timeout its timer was started with, in ms. -/
inductive ShuttleState
  | idle | moving (lane : Lane) (stack : StackNo) (timeout : Nat) | faulted
  deriving DecidableEq, Repr

/-- The shuttle arbiter and the statistics of R157. -/
structure ShuttleUnit where
  state : ShuttleState
  credits : Vector Nat 12
  lastWinner : Option Lane
  faults : Count
  timeouts : Count
  lateDones : Count
  strayHandshakes : Count
  strayTakes : Count
  powerFailTakes : Count
  deriving DecidableEq, Repr

/-- The delivery queue (R149): entries head first, `none` for a void entry. -/
structure DeliveryQueue where
  entries : List (Option StackNo)
  nextSeq : BitVec 32
  deriving DecidableEq, Repr

/-- One condition counter (R166): its working copy and its three values. -/
structure CounterState where
  config : CounterConfig
  working : Count
  published : Count
  rows : Nat
  deriving DecidableEq, Repr, Inhabited

/-- The mode controller (R160). -/
structure ModeController where
  mode : LineMode
  target : TargetMode
  deriving DecidableEq, Repr

/-- The attention logic (R174 to R177): the pending latched causes and the enabled set as cause sets of R192. -/
structure AttentionLogic where
  latched : BitVec 16
  enabled : BitVec 16
  qualityStop : Bool
  deriving DecidableEq, Repr

/-- Record memory (Chapter 10): the 97 records, the flipped bits of the image, the scrub position, the corrected-word
count, the damaged set, and the T handed over at PFAIL whose write has not been made (R76, R185). -/
structure RecordMemory where
  geometry : GeometryRecord
  jobRecs : Vector JobRecord 16
  laneRecs : Vector LaneRecord 12
  stackRecs : Vector StackRecord 64
  counterRecs : Vector CounterConfig 4
  flips : List Flip
  scrub : Nat
  corrected : Count
  damagedSet : List RecordRef
  trimToSave : Option Int
  deriving DecidableEq, Repr

/-- The response slot (R191). -/
inductive ResponseSlot
  | empty | building | ready (frame : List Byte)
  deriving DecidableEq, Repr

/-- The state of the part, with the queue of commands that are waiting, first in first out. -/
structure State where
  position : PositionUnit
  ring : Ring
  verdict : VerdictReceiver
  register : RegisterUnit
  lanes : Vector LaneUnit 12
  backLandings : Count
  shuttle : ShuttleUnit
  queue : DeliveryQueue
  counters : Vector CounterState 4
  modes : ModeController
  attention : AttentionLogic
  memory : RecordMemory
  work : Settings
  pfail : Bool
  port : ResponseSlot
  outputs : List Output
  freeCount : Nat
  pending : List Instr
  deriving DecidableEq, Repr

/-- What a step answers. -/
abbrev Result := Host.Outcome State Fault Refusal

/-! ## The state after reset -/

/-- R60: the defaults of the geometry record. -/
def Settings.default : Settings where
  pNom := 30000
  wMark := 600
  lossLimit := 3
  dDie := 120000
  wDie := 2000
  oCut := 0
  dGate := 150000
  lMin := 4000
  lMax := 20000
  upstream := 0
  lead := 1000
  trail := 1000
  rRev := 2000
  filterShift := 2
  gain := 8
  slew := 50
  lTrim := 4000
  tol := 30
  wOut := 400
  nSettle := 8
  capacity := 12
  watermark := 9
  shuttleTimeout := 2000
  jamLimit := 2
  arbiter := .strict
  inspection := .required
  verdictRate := .b460800
  trimRate := .b460800

/-- A job record whose fields are all 0, in a given slot state (log entry 8; R181). -/
def JobRecord.zero (st : SlotState) : JobRecord where
  state := st
  jobId := 0
  name := List.replicate 16 0
  target := 0
  serialMode := .none
  step := 0
  gapLimit := 0
  sampleEnable := false
  sampleValue := 0
  sampleMask := 0
  nextOrdinal := 0

/-- A stack record whose fields are all 0 or absent, in a given state (log entry 8; R181). -/
def StackRecord.zero (st : StackState) : StackRecord where
  state := st
  heldCause := none
  lane := 0
  slot := 0
  jobId := 0
  ordinal := 0
  target := 0
  committed := 0
  landed := 0
  lost := 0
  stray := 0
  flags := ⟨false, false, false, false, false⟩
  lateRejects := 0
  sealReason := none
  serial := none
  deliverySeq := none

/-- The lane record of the image that log entry 8 names: disabled, naming no slot, priority 15, weight 1. -/
def LaneRecord.blank : LaneRecord where
  damaged := false
  enabled := false
  slot := none
  origin := 0
  priority := 15
  weight := 1

/-- The counter configuration of the image that log entry 8 names: nothing counted, threshold off. -/
def CounterConfig.blank : CounterConfig where
  damaged := false
  laneSet := 0
  mask := 0
  unit := .label
  mode := .accumulate
  window := 0
  threshold := 0
  action := .attn

/-- R99, R116: the volatile part of a lane after a reset that leaves it OFF. -/
def LaneUnit.reset : LaneUnit where
  run := .off
  rowOrigin := .none
  consecutiveLost := 0
  skipCause := some .resume
  skipRow := none
  stray := 0
  gate := .waste

/-- R22: the position unit after reset. -/
def PositionUnit.reset : PositionUnit where
  position := 0
  highWater := 0
  reverseArm := true
  expectation := none
  consecutiveSynthetic := 0
  spacing := none
  zone := none
  reverseDue := false
  advanced := false
  encoderErrors := 0
  earlyMarks := 0
  backMarks := 0
  idleMarks := 0
  syntheticRows := 0
  reverses := 0
  splices := 0

/-- R41: the row ring after reset. -/
def Ring.reset : Ring where
  slots := Vector.replicate 128 none
  next := 0
  openCount := 0

/-- R59: the verdict receiver after reset. -/
def VerdictReceiver.reset : VerdictReceiver where
  state := .hunt
  kept := []
  count := 0
  spoiled := false
  merged := 0
  malformed := 0
  late := 0
  unknown := 0

/-- R77: the register unit after a reset that leaves F16 and T as given. -/
def RegisterUnit.reset (f16 trim : Int) : RegisterUnit where
  f16 := f16
  trim := trim
  settle := 0
  sending := none
  waiting := []
  strayIndex := 0
  backIndex := 0
  missedCuts := 0
  outliers := 0
  overruns := 0

/-- The machine right after a cold reset on the image of log entry 8: every field as R22, R41, R59, R77, R99, R116, R158,
R159, R165, R172, R177, R184, R188 and R191 give it. -/
def State.reset : State where
  position := PositionUnit.reset
  ring := Ring.reset
  verdict := VerdictReceiver.reset
  register := RegisterUnit.reset 0 0
  lanes := Vector.replicate 12 LaneUnit.reset
  backLandings := 0
  shuttle :=
    { state := .idle
      credits := Vector.replicate 12 1
      lastWinner := none
      faults := 0
      timeouts := 0
      lateDones := 0
      strayHandshakes := 0
      strayTakes := 0
      powerFailTakes := 0 }
  queue := { entries := [], nextSeq := 0 }
  counters :=
    Vector.replicate 4 { config := CounterConfig.blank, working := 0, published := 0, rows := 0 }
  modes := { mode := .parked, target := .park }
  attention := { latched := 0, enabled := 0x0FFF, qualityStop := false }
  memory :=
    { geometry := { damaged := false, settings := Settings.default, savedTrim := 0 }
      jobRecs := Vector.replicate 16 (JobRecord.zero .empty)
      laneRecs := Vector.replicate 12 LaneRecord.blank
      stackRecs := Vector.replicate 64 (StackRecord.zero .free)
      counterRecs := Vector.replicate 4 CounterConfig.blank
      flips := []
      scrub := 0
      corrected := 0
      damagedSet := []
      trimToSave := none }
  work := Settings.default
  pfail := false
  port := .empty
  outputs := []
  freeCount := 0
  pending := []

end Sys2Proof.Machine
end

