-- ==== Sys2Proof/Machine/Ops.lean ====
section
/-! DEFINITION. The named operations that the blocks share: modular positions, saturating counts, the arithmetic of the
register loop and of serials, the accessors of the tables, the ring and the record image, and the bytes on SDO. -/

namespace Sys2Proof.Machine

/-! ## Tables -/

/-- The table with entry `i` replaced. -/
def vset {α : Type} {n : Nat} (v : Vector α n) (i : Fin n) (x : α) : Vector α n :=
  v.set i.val x i.isLt

/-- The table whose entry `i` is `f i`. -/
def vtab {α : Type} {n : Nat} (f : Fin n → α) : Vector α n :=
  ⟨⟨(List.finRange n).map f⟩, by simp⟩

/-! ## Positions (R2) -/

/-- R2: the modular difference of two positions, read as a signed 32-bit number. -/
def posDiff (a b : Pos) : Int := (a - b).toInt

/-- R2: `a` is past `b`. -/
abbrev posPast (a b : Pos) : Prop := 0 < posDiff a b

/-- R2: `a` is before `b`. -/
abbrev posBefore (a b : Pos) : Prop := posDiff a b < 0

/-- R2: `p` lies within the interval that includes both ends. -/
abbrev posWithin (p a b : Pos) : Prop := 0 ≤ posDiff p a ∧ posDiff p b ≤ 0

/-- R2: a distance is added to a position modulo 2^32. -/
def posAdd (a : Pos) (d : Int) : Pos := a + BitVec.ofInt 32 d

/-- 2^30 ticks, after which a stored reference is dropped (R2, R8, R15). -/
def expiryDistance : Int := 1073741824

/-! ## Counts -/

/-- A count that saturates at the largest value of its width. -/
def satInc {w : Nat} (c : BitVec w) : BitVec w :=
  if c = BitVec.allOnes w then c else c + 1

/-- A 16-bit count increased by `k`, saturating at 65,535 (R167). -/
def satAdd (c : Count) (k : Nat) : Count :=
  if 65535 ≤ c.toNat + k then BitVec.allOnes 16 else BitVec.ofNat 16 (c.toNat + k)

/-! ## The register loop (R65, R67, R68) -/

/-- Rounding of `x / n` to the nearest integer, ties away from zero (00_scope.md, Rounding; R67). -/
def roundAway (x : Int) (n : Nat) : Int :=
  if x < 0 then -(((x.natAbs + n / 2) / n : Nat) : Int) else (((x.natAbs + n / 2) / n : Nat) : Int)

/-- `x` clamped to `lo … hi`. -/
def clampInt (lo hi x : Int) : Int := max lo (min hi x)

/-- R65: the raw register error of a pulse at `p`, clamped to −32,767 … +32,767. -/
def rawErrorOf (p e : Pos) : Int := clampInt (-32767) 32767 (posDiff p e)

/-- R67: F16 after a sample `e` under filter shift `k`. -/
def filterNext (f16 e : Int) (k : Nat) : Int := f16 + roundAway (16 * e - f16) (2 ^ k)

/-- R68: the correction after the slew clamp. -/
def correctionOf (f16 : Int) (gain slew : Nat) : Int :=
  clampInt (-(slew : Int)) slew (roundAway (f16 * gain) 256)

/-! ## Serials (R112, R113) -/

/-- Serials run modulo 100,000,000. -/
def serialModulus : Int := 100000000

/-- R112: the serial `k` steps after the origin `s0`. -/
def serialAt (mode : SerialMode) (step s0 k : Nat) : Nat :=
  match mode with
  | .down => (((s0 : Int) - step * k) % serialModulus).toNat
  | _ => (((s0 : Int) + step * k) % serialModulus).toNat

/-- R113: the distance in steps from serial `a` to serial `b`; `none` when it is not whole. -/
def serialDistance (mode : SerialMode) (step a b : Nat) : Option Nat :=
  let forward :=
    match mode with
    | .down => (((a : Int) - b) % serialModulus).toNat
    | _ => (((b : Int) - a) % serialModulus).toNat
  if forward % step = 0 then some (forward / step) else none

/-- R100: a job is serialized when its serial mode is UP or DOWN. -/
def JobRecord.serialized (j : JobRecord) : Bool := j.serialMode != .none

/-! ## The record image: what a reader finds -/

/-- A record in the damaged set is answered as if its damage rewrite had been made (R181). -/
def State.inDamagedSet (s : State) (ref : RecordRef) : Bool := s.memory.damagedSet.contains ref

/-- R178: the damage mark of a record in the image. -/
def State.marked (s : State) : RecordRef → Bool
  | .geometry => s.memory.geometry.damaged
  | .job j => s.memory.jobRecs[j].state == .damaged
  | .lane l => s.memory.laneRecs[l].damaged
  | .stack n => s.memory.stackRecs[n].state == .quarantined .damaged
  | .counter c => s.memory.counterRecs[c].damaged

/-- R178: a record is damaged while it carries its mark or stands in the damaged set. -/
def State.isDamaged (s : State) (ref : RecordRef) : Bool := s.marked ref || s.inDamagedSet ref

/-- The stack record as a reader finds it. -/
def State.stack (s : State) (n : StackNo) : StackRecord :=
  if s.inDamagedSet (.stack n) then StackRecord.zero (.quarantined .damaged) else s.memory.stackRecs[n]

/-- The job record as a reader finds it. -/
def State.job (s : State) (j : JobSlot) : JobRecord :=
  if s.inDamagedSet (.job j) then JobRecord.zero .damaged else s.memory.jobRecs[j]

/-- R108, R183: a damaged lane record is treated as disabled, naming no slot, with priority 15 and weight 1. -/
def LaneRecord.treated : LaneRecord :=
  { damaged := true, enabled := false, slot := none, origin := 0, priority := 15, weight := 1 }

/-- The retentive part of a lane record as a reader finds it. -/
def State.laneRec (s : State) (l : Lane) : LaneRecord :=
  if s.isDamaged (.lane l) then LaneRecord.treated else s.memory.laneRecs[l]

/-- Whether the geometry record is damaged. -/
def State.geometryDamaged (s : State) : Bool := s.isDamaged .geometry

/-- R166: a counter is off while its configuration record is damaged. -/
def State.counterOff (s : State) (c : CounterNo) : Bool := s.isDamaged (.counter c)

/-- A write of a stack record. -/
def State.setStack (s : State) (n : StackNo) (r : StackRecord) : State :=
  { s with memory := { s.memory with stackRecs := vset s.memory.stackRecs n r } }

/-- A write of a job record. -/
def State.setJob (s : State) (j : JobSlot) (r : JobRecord) : State :=
  { s with memory := { s.memory with jobRecs := vset s.memory.jobRecs j r } }

/-- A write of the retentive part of a lane record. -/
def State.setLaneRec (s : State) (l : Lane) (r : LaneRecord) : State :=
  { s with memory := { s.memory with laneRecs := vset s.memory.laneRecs l r } }

/-- A write of the geometry record. -/
def State.setGeometry (s : State) (g : GeometryRecord) : State :=
  { s with memory := { s.memory with geometry := g } }

/-- A write of a counter configuration. -/
def State.setCounterRec (s : State) (c : CounterNo) (r : CounterConfig) : State :=
  { s with memory := { s.memory with counterRecs := vset s.memory.counterRecs c r } }

/-- R180: a write that replaces every word of a record leaves no flipped bit in it. -/
def State.clearFlips (s : State) (ref : RecordRef) : State :=
  { s with memory := { s.memory with flips := s.memory.flips.filter (fun f => f.ref != ref) } }

/-- R180: a word that a write stores has check bits computed from the new data, so it holds no flipped bit. -/
def State.clearWords (s : State) (ref : RecordRef) (stored : Nat → Bool) : State :=
  { s with memory := { s.memory with flips := s.memory.flips.filter (fun f => !(f.ref == ref && stored f.word)) } }

/-! ## Lanes -/

/-- The manual's number of a lane, 1 to 12. -/
def laneNumber (l : Lane) : Nat := l.val + 1

/-- The lane of a lane number; used on the numbers of live records, which are 1 to 12. -/
def laneOfNumber (k : Nat) : Lane := Fin.ofNat 12 (k - 1)

/-- The volatile part of one lane changed. -/
def State.setLane (s : State) (l : Lane) (u : LaneUnit) : State :=
  { s with lanes := vset s.lanes l u }

/-- The run state of one lane changed. -/
def State.setRun (s : State) (l : Lane) (r : RunState) : State :=
  s.setLane l { s.lanes[l] with run := r }

/-- The lowest-numbered stack record that meets a test. -/
def State.findStack (s : State) (p : StackRecord → Bool) : Option StackNo :=
  (List.finRange 64).find? (fun n => p (s.stack n))

/-- The lane's record in a given state, the lowest-numbered if there are several (R117, a lane holds a record). -/
def State.laneStack (s : State) (l : Lane) (st : StackState) : Option StackNo :=
  s.findStack (fun r => r.state == st && r.lane == laneNumber l)

/-- The lane's OPEN record. -/
abbrev State.openOf (s : State) (l : Lane) : Option StackNo := s.laneStack l .opened

/-- The lane's READY record: its ready position is occupied (R117). -/
abbrev State.readyOf (s : State) (l : Lane) : Option StackNo := s.laneStack l .ready

/-- The lane's HELD record. -/
abbrev State.heldOf (s : State) (l : Lane) : Option StackNo := s.laneStack l .held

/-- The lowest-numbered FREE record (R121). -/
def State.lowestFree (s : State) : Option StackNo := s.findStack (fun r => r.state == .free)

/-- R117, R121: a record that becomes FREE keeps the fields it held, its quarantine cause among them. -/
def StackRecord.freed (r : StackRecord) : StackRecord :=
  match r.state with
  | .quarantined c => { r with state := .free, heldCause := some c }
  | _ => { r with state := .free }

/-- Whether a record is one of its lane's SEALED, HELD and READY records. -/
def StackRecord.piled (r : StackRecord) : Bool :=
  r.state == .sealed || r.state == .held || r.state == .ready

/-- The lane's SEALED, HELD and READY records, in ascending stack number. -/
def State.pile (s : State) (l : Lane) : List StackNo :=
  (List.finRange 64).filter (fun n => (s.stack n).piled && (s.stack n).lane == laneNumber l)

/-- R84: what keeps a lane from a new stack record, or `none` when one can be had. -/
def State.newRecordBlock (s : State) (l : Lane) : Option BlockedCause :=
  if 2 ≤ (s.pile l).length then some .slots
  else if s.lowestFree.isNone then some .noRecord
  else none

/-- R88: the lane's running condition. -/
def State.runningCondition (s : State) (l : Lane) : Bool :=
  (s.laneRec l).enabled &&
    match (s.laneRec l).slot with
    | none => false
    | some j =>
      ((s.job j).state == .active || (s.job j).state == .ending) &&
        (!(s.job j).serialized || s.lanes[l].rowOrigin != .none)

/-- R88: the run state after the running condition has been tested again. -/
def runAfterTest (holds : Bool) : RunState → RunState
  | .off => if holds then .active else .off
  | .active => if holds then .active else .off
  | .blocked c => if holds then .blocked c else .off
  | .jammed => .jammed

/-- R88: the lane table tests a lane's running condition again. -/
def State.retestLane (s : State) (l : Lane) : State :=
  s.setRun l (runAfterTest (s.runningCondition l) s.lanes[l].run)

/-- R89: the run state of a BLOCKED lane after the test of R84. -/
def runAfterUnblock (block : Option BlockedCause) : RunState → RunState
  | .blocked _ =>
    match block with
    | none => .active
    | some c => .blocked c
  | r => r

/-- R89, R121: the lane table tests every BLOCKED lane. -/
def State.unblockLanes (s : State) : State :=
  { s with lanes := vtab (fun l =>
      { s.lanes[l] with run := runAfterUnblock (s.newRecordBlock l) s.lanes[l].run }) }

/-- R86: every lane's gate setting held at WASTE. -/
def State.gatesToWaste (s : State) : State :=
  { s with lanes := vtab (fun l => { s.lanes[l] with gate := .waste }) }

/-- R106, R108: whether a lane names a slot (a damaged lane record names none). -/
def State.laneNames (s : State) (l : Lane) (j : JobSlot) : Bool := (s.laneRec l).slot == some j

/-- R87: the skip cause set at a failure of a row, when none is held. -/
def LaneUnit.skip (u : LaneUnit) (c : Cause) (row : RowNo) : LaneUnit :=
  if u.skipCause.isSome then u else { u with skipCause := some c, skipRow := some row }

/-! ## The row ring -/

/-- R23: row `r` is held in slot `r` modulo 128. -/
def ringSlot (r : RowNo) : RingSlot := Fin.ofNat 128 r.toNat

/-- The record in a slot. -/
def State.rowAt (s : State) (i : RingSlot) : Option RowRecord := s.ring.slots[i]

/-- A write of the record in a slot. -/
def State.setRow (s : State) (i : RingSlot) (r : RowRecord) : State :=
  { s with ring := { s.ring with slots := vset s.ring.slots i (some r) } }

/-- The number of the oldest open row (R23). -/
def State.oldestNumber (s : State) : RowNo := s.ring.next - BitVec.ofNat 32 s.ring.openCount

/-- The slots of the open rows, in ascending row number: rows N − n to N − 1 (R23). -/
def State.openSlots (s : State) : List RingSlot :=
  (List.range s.ring.openCount).map (fun i => ringSlot (s.oldestNumber + BitVec.ofNat 32 i))

/-- The first open row, in ascending row number, that meets a test. -/
def State.findOpen (s : State) (p : RowRecord → Bool) : Option RingSlot :=
  s.openSlots.find? (fun i => (s.rowAt i).any p)

/-- R100: a slot is referenced by an open row. -/
def State.slotReferenced (s : State) (j : JobSlot) : Bool :=
  s.openSlots.any (fun i => (s.rowAt i).any (fun r => r.lanes.toList.any (fun e => e.snapshot == some j)))

/-- Every row whose phase is OPEN or CUT changed by `f` (R5, R7). -/
def State.mapUndecided (s : State) (f : RowRecord → RowRecord) : State :=
  { s with ring := { s.ring with slots := vtab (fun i =>
      (s.ring.slots[i]).map (fun r => if r.phase = .opened ∨ r.phase = .cut then f r else r)) } }

/-- One lane's entry of a row record changed. -/
def RowRecord.setEntry (r : RowRecord) (l : Lane) (e : LaneEntry) : RowRecord :=
  { r with lanes := vset r.lanes l e }

/-- R32: a row is finished when it is DECIDED and none of its lanes is AWAITING. -/
def RowRecord.finished (r : RowRecord) : Bool :=
  r.phase == .decided && r.lanes.toList.all (fun e => e.landing != .awaiting)

/-- R16: the tag of a row number. -/
def tagOf (r : RowNo) : Byte := r.setWidth 8

/-- R78: a row's gate point. -/
def gatePointOf (s : State) (r : RowRecord) : Pos := posAdd r.mark s.work.dGate

/-- R85, R95: the end of a row's landing windows. -/
def landingEndOf (s : State) (r : RowRecord) : Pos := posAdd (gatePointOf s r) s.work.lMax

/-- R63: the end of a row's die capture window. -/
def dieWindowEndOf (s : State) (r : RowRecord) : Pos := posAdd r.expected s.work.wDie

/-- R3: the web reaches `t`: the last count was the up-count that set high-water to `t`. -/
def State.reaches (s : State) (t : Pos) : Bool := s.position.advanced && s.position.highWater == t

/-- R3: the web passes `t`: the last count was the up-count that set high-water to `t + 1`. -/
def State.passes (s : State) (t : Pos) : Bool := s.reaches (posAdd t 1)

/-- R35: what a tag resolves to. -/
inductive TagResolution
  | openRow (i : RingSlot) (r : RowRecord)
  | retiredRow (i : RingSlot) (r : RowRecord)
  | noRow

/-- R35: the ring looks in slot `t` modulo 128 and compares the tags. -/
def State.resolveTag (s : State) (t : Byte) : TagResolution :=
  match s.rowAt (Fin.ofNat 128 t.toNat) with
  | none => .noRow
  | some r =>
    if tagOf r.number = t then
      if r.phase = .retired then .retiredRow (Fin.ofNat 128 t.toNat) r
      else .openRow (Fin.ofNat 128 t.toNat) r
    else .noRow

/-! ## Outputs -/

/-- An output event put on its line. -/
def State.emit (s : State) (o : Output) : State := { s with outputs := o :: s.outputs }

/-! ## SDO (R189, R191) -/

/-- R189, R191: `n` bytes shifted out: the ready response from its first byte, then 0x00; 0x00 throughout when none is
ready. -/
def shiftedOut (port : ResponseSlot) (n : Nat) : List Byte :=
  match port with
  | .ready frame => (frame ++ List.replicate n 0).take n
  | _ => List.replicate n 0

/-- R189: a transfer of `n` bytes shifts out what the port holds, whatever its kind. -/
def State.clocked (s : State) (n : Nat) : State := s.emit (.sdo (shiftedOut s.port n))

/-- R189, R190: the transfer of a request frame with `len` payload bytes: 0x5A, code, length, payload and check byte. -/
def State.framed (s : State) (len : Nat) : State := s.clocked (len + 4)

end Sys2Proof.Machine
end

