-- ==== Sys2Proof/Machine/Flags.lean ====
section
/-! DEFINITION. The attention causes, the press request lines and the other level lines of the part (Chapter 9, R86, R140,
R151, R199). A level is a function of the state: it changes at each event that changes its condition. -/

namespace Sys2Proof.Machine

/-- The twelve attention causes (R174), in the order of their bits (R192). -/
inductive Attention
  | modeReached | trackingLost | verdictFault | trimSaturated | counterLimit | recordCorrected | recordDamaged | strayTake
  | laneJam | laneBlocked | shuttleFault | deliverySlow
  deriving DecidableEq, Repr

/-- R192: the bit of a cause in a cause set. -/
def Attention.bit : Attention → Nat
  | .modeReached => 0
  | .trackingLost => 1
  | .verdictFault => 2
  | .trimSaturated => 3
  | .counterLimit => 4
  | .recordCorrected => 5
  | .recordDamaged => 6
  | .strayTake => 7
  | .laneJam => 8
  | .laneBlocked => 9
  | .shuttleFault => 10
  | .deliverySlow => 11

/-- The cause set that names one cause. -/
def Attention.set (a : Attention) : BitVec 16 := BitVec.ofNat 16 (2 ^ a.bit)

/-- The cause sets of the eight latched causes and of the four level causes (R174). -/
def latchedSet : BitVec 16 := 0x00FF
def levelSet : BitVec 16 := 0x0F00

/-- R174: a latched cause becomes pending when it is raised, and one that is pending stays so. -/
def State.raise (s : State) (a : Attention) : State :=
  { s with attention := { s.attention with latched := s.attention.latched ||| a.set } }

/-- Some lane's run state meets a test. -/
def State.anyLane (s : State) (p : RunState → Bool) : Bool := s.lanes.toList.any (fun u => p u.run)

/-- Some lane is JAMMED. -/
def State.someJammed (s : State) : Bool := s.anyLane (fun r => r == .jammed)

/-- Some lane is BLOCKED. -/
def State.someBlocked (s : State) : Bool :=
  s.anyLane (fun r => match r with | .blocked _ => true | _ => false)

/-- Whether a transfer stands: 1 for a stack in transfer, 0 for none (R149, R173). -/
def ShuttleState.inTransfer : ShuttleState → Nat
  | .moving _ _ _ => 1
  | _ => 0

/-- R151: SLOW_REQ is asserted while the number of entries is at or above the watermark. -/
def State.slowReq (s : State) : Bool := s.work.watermark ≤ s.queue.entries.length

/-- R173: the five stop reasons, in the order of their bits (R194). -/
def State.stopReasons (s : State) : List Bool :=
  [ s.someJammed,
    s.shuttle.state == .faulted,
    s.attention.qualityStop,
    s.pfail,
    s.someBlocked && s.queue.entries.length + s.shuttle.state.inTransfer == s.work.capacity ]

/-- R173: STOP_REQ is asserted while at least one of the five conditions holds. -/
def State.stopReq (s : State) : Bool := s.stopReasons.any id

/-- A number made of flag bits, bit 0 first. -/
def bitsOf : List Bool → Nat
  | [] => 0
  | b :: bs => (if b then 1 else 0) + 2 * bitsOf bs

/-- R174: the level causes pending, as a cause set. -/
def State.levelCauses (s : State) : BitVec 16 :=
  BitVec.ofNat 16
    (256 * bitsOf [s.someJammed, s.someBlocked, s.shuttle.state == .faulted, s.slowReq])

/-- R174: the pending set. -/
def State.pendingSet (s : State) : BitVec 16 := s.attention.latched ||| s.levelCauses

/-- R176: ATTN is asserted while some pending cause is in the enabled set. -/
def State.attn (s : State) : Bool := s.pendingSet &&& s.attention.enabled != 0

/-- R140, R199: the lane select lines: the lane in transfer in binary, 0 when no lane. -/
def State.laneSelect (s : State) : Nat :=
  match s.shuttle.state with
  | .moving l _ _ => laneNumber l
  | _ => 0

/-- R86, R199: a lane's gate lines S and P. -/
def gateLines : Gate → Bool × Bool
  | .stack => (true, false)
  | .sample => (false, true)
  | .waste => (false, false)

end Sys2Proof.Machine
end

