-- ==== Sys2Proof/Machine/Operands.lean ====
section
/-! DEFINITION. The operand forms of the part: the check value, the byte layouts of frames, messages and payloads
(sections 11.2 to 11.4), the codes of named values, the form checks of R192 and the value checks of R60, R101, R109 and
R170. -/

namespace Sys2Proof.Machine

/-! ## The check value (R44, R190) -/

/-- One byte taken into the CRC-8 register, most significant bit first: generator x^8 + x^2 + x + 1. -/
def crcByte (c b : Byte) : Byte :=
  (List.range 8).foldl (fun r _ => if r.msb then (r <<< 1) ^^^ 0x07#8 else r <<< 1) (c ^^^ b)

/-- The CRC-8 of a run of bytes, from a register of zero, with no final inversion. -/
def crc8 (bytes : List Byte) : Byte := bytes.foldl crcByte 0

/-! ## Numbers (R192) -/

/-- A number in `k` bytes, most significant byte first. -/
def beBytes (k v : Nat) : List Byte :=
  (List.range k).map (fun i => BitVec.ofNat 8 (v >>> (8 * (k - 1 - i))))

/-- A signed number in 16 bits, two's complement. -/
def be16s (v : Int) : List Byte := beBytes 2 (BitVec.ofInt 16 v).toNat

/-- A signed number in 32 bits, two's complement. -/
def be32s (v : Int) : List Byte := beBytes 4 (BitVec.ofInt 32 v).toNat

/-- The number that bytes spell, most significant byte first. -/
def beNat (bytes : List Byte) : Nat := bytes.foldl (fun a b => 256 * a + b.toNat) 0

/-- One byte of a count or a code. -/
def byteOf (v : Nat) : Byte := BitVec.ofNat 8 v

/-- A flag byte of a response. -/
def flagByte (b : Bool) : Byte := if b then 1 else 0

/-- R192: a stack number or a job slot, 0xFF when absent. -/
def indexByte {n : Nat} (i : Option (Fin n)) : Byte :=
  match i with
  | none => 0xFF
  | some k => byteOf k.val

/-! ## Codes (R192) -/

def LineMode.code : LineMode → Nat
  | .parked => 0
  | .seek => 1
  | .tracking => 2
  | .draining => 3

def TargetMode.code : TargetMode → Nat
  | .park => 0
  | .run => 1

/-- The run state in bits 0–1 and the blocked cause in bits 2–3 (R193, R194). -/
def RunState.byte : RunState → Byte
  | .off => 0
  | .active => 1
  | .blocked .slots => 6
  | .blocked .noRecord => 10
  | .jammed => 3

/-- The run state alone (R193, LANE WRITE and LANE CLEAR). -/
def RunState.code : RunState → Nat
  | .off => 0
  | .active => 1
  | .blocked _ => 2
  | .jammed => 3

def SlotState.code : SlotState → Nat
  | .empty => 0
  | .active => 1
  | .ending => 2
  | .damaged => 3

def SerialMode.code : SerialMode → Nat
  | .none => 0
  | .up => 1
  | .down => 2

def SerialMode.ofCode : Nat → Option SerialMode
  | 0 => some .none
  | 1 => some .up
  | 2 => some .down
  | _ => none

def StackState.code : StackState → Nat
  | .free => 0
  | .opened => 1
  | .sealed => 2
  | .held => 3
  | .ready => 4
  | .transfer => 5
  | .delivered => 6
  | .quarantined _ => 7

def sealCode : Option SealReason → Nat
  | none => 0
  | some .target => 1
  | some .close => 2
  | some .gapLimit => 3
  | some .serialBreak => 4
  | some .jobChange => 5
  | some .jobEnd => 6
  | some .laneOff => 7

/-- 1 to 13, in the order of the gate precedence. -/
def WasteReason.code : WasteReason → Nat
  | .laneOff => 1
  | .jam => 2
  | .reverse => 3
  | .marklost => 4
  | .settling => 5
  | .splice => 6
  | .miscut => 7
  | .misreg => 8
  | .print => 9
  | .blank => 10
  | .manual => 11
  | .noverdict => 12
  | .blocked => 13

def causeCode : Option Cause → Nat
  | none => 0
  | some (.waste r) => r.code
  | some .sample => 14
  | some .lost => 15
  | some .resume => 16

def Disposition.code : Disposition → Nat
  | .undecided => 0
  | .stack _ => 1
  | .waste _ => 2
  | .sample => 3

def Gate.code : Gate → Nat
  | .stack => 1
  | .waste => 2
  | .sample => 3

def Camera.code : Camera → Nat
  | .pending => 0
  | .good => 1
  | .print => 2
  | .blank => 3

/-- R46: the camera verdict that a lane code stands for. -/
def Camera.ofCode (c : BitVec 2) : Camera :=
  match c.toNat with
  | 0 => .pending
  | 1 => .good
  | 2 => .print
  | _ => .blank

/-- R46: a verdict is replaced by one of higher rank only. -/
def Camera.merge (present new : Camera) : Camera := if present.code < new.code then new else present

def Landing.code : Landing → Nat
  | .none => 0
  | .awaiting => 1
  | .landed => 2
  | .lost => 3

def Phase.code : Phase → Nat
  | .opened => 0
  | .cut => 1
  | .decided => 2
  | .retired => 3

def ShuttleState.code : ShuttleState → Nat
  | .idle => 0
  | .moving _ _ _ => 1
  | .faulted => 2

def LinkRate.code : LinkRate → Nat
  | .b115200 => 0
  | .b230400 => 1
  | .b460800 => 2
  | .b921600 => 3

def LinkRate.ofCode : Nat → Option LinkRate
  | 0 => some .b115200
  | 1 => some .b230400
  | 2 => some .b460800
  | 3 => some .b921600
  | _ => none

def ArbiterMode.code : ArbiterMode → Nat
  | .strict => 0
  | .weighted => 1

def ArbiterMode.ofCode : Nat → Option ArbiterMode
  | 0 => some .strict
  | 1 => some .weighted
  | _ => none

def InspectionMode.code : InspectionMode → Nat
  | .required => 0
  | .advisory => 1

def InspectionMode.ofCode : Nat → Option InspectionMode
  | 0 => some .required
  | 1 => some .advisory
  | _ => none

def CounterUnit.code : CounterUnit → Nat
  | .label => 0
  | .row => 1

def CounterUnit.ofCode : Nat → Option CounterUnit
  | 0 => some .label
  | 1 => some .row
  | _ => none

def CounterMode.code : CounterMode → Nat
  | .window => 0
  | .accumulate => 1

def CounterMode.ofCode : Nat → Option CounterMode
  | 0 => some .window
  | 1 => some .accumulate
  | _ => none

def CounterAction.code : CounterAction → Nat
  | .attn => 0
  | .stop => 1

def CounterAction.ofCode : Nat → Option CounterAction
  | 0 => some .attn
  | 1 => some .stop
  | _ => none

/-- R190: the status byte. -/
def Status.code : Status → Nat
  | .ok => 0
  | .errFrame => 1
  | .errCode => 2
  | .errArg => 3
  | .errState => 4
  | .errNotHead => 5
  | .errDamaged => 6
  | .errPower => 7

/-! ## Arguments -/

/-- A lane argument, 1 to 12. -/
def laneArg (b : Byte) : Option Lane :=
  if h : 1 ≤ b.toNat ∧ b.toNat ≤ 12 then some ⟨b.toNat - 1, by omega⟩ else none

/-- An index argument below `n`. -/
def indexArg (n : Nat) (b : Byte) : Option (Fin n) :=
  if h : b.toNat < n then some ⟨b.toNat, h⟩ else none

/-- R192: a flag byte holds 0 or 1. -/
def flagForm (b : Byte) : Bool := b == 0 || b == 1

/-- R192: bits 12 to 15 of a lane set or a cause set are 0. -/
def setForm (v : BitVec 16) : Bool := v &&& 0xF000 == 0

/-- R192: bit 15 of a disposition mask is 0. -/
def maskForm (v : BitVec 16) : Bool := v &&& 0x8000 == 0

/-- R192: whether a lane set names a lane. -/
def inLaneSet (v : BitVec 16) (l : Lane) : Bool := v.getLsbD l.val

/-- R192: the lane set of the lanes that meet a test. -/
def laneSetOf (p : Lane → Bool) : Nat := bitsOf ((List.finRange 12).map p)

/-! ## Response frames (R191) -/

/-- R191: 0xA5, status, length, payload and the check byte over the status, the length and the payload. -/
def responseFrame (st : Status) (payload : List Byte) : List Byte :=
  let body := byteOf st.code :: byteOf payload.length :: payload
  0xA5#8 :: (body ++ [crc8 body])

/-- R190: an answer discards any response the port held and becomes the port's response. -/
def State.answer (s : State) (st : Status) (payload : List Byte) : State :=
  { s with port := .ready (responseFrame st payload) }

/-- R190: a request whose frame is sound and whose code is known, other than STATUS. It is answered ERR_POWER while PFAIL
is asserted and ERR_ARG when a field breaks its form; otherwise it acts by its own rule, with the slot building (R191), and
the status and payload it gives are answered. -/
def State.request (s : State) (form : Bool) (act : State → State × Status × List Byte) : State :=
  if s.pfail then s.answer .errPower []
  else if form then
    (act { s with port := .building }).1.answer (act { s with port := .building }).2.1
      (act { s with port := .building }).2.2
  else s.answer .errArg []

/-- A request refused with a status value: a payload length of 0 and no effect (R190). -/
def refuse (s : State) (st : Status) : State × Status × List Byte := (s, st, [])

/-- A request taken with a response payload. -/
def reply (s : State) (payload : List Byte) : State × Status × List Byte := (s, .ok, payload)

/-! ## The geometry payload (R60, R197) -/

/-- The settings a payload carries; `none` when a mode or rate code is outside those given. -/
def GeometryPayload.settings (p : GeometryPayload) : Option Settings :=
  match ArbiterMode.ofCode p.arbiter.toNat, InspectionMode.ofCode p.inspection.toNat,
      LinkRate.ofCode p.verdictRate.toNat, LinkRate.ofCode p.trimRate.toNat with
  | some arbiter, some inspection, some verdictRate, some trimRate =>
    some
      { pNom := p.pNom.toNat
        wMark := p.wMark.toNat
        lossLimit := p.lossLimit.toNat
        dDie := p.dDie.toNat
        wDie := p.wDie.toNat
        oCut := p.oCut.toInt
        dGate := p.dGate.toNat
        lMin := p.lMin.toNat
        lMax := p.lMax.toNat
        upstream := p.upstream.toNat
        lead := p.lead.toNat
        trail := p.trail.toNat
        rRev := p.rRev.toNat
        filterShift := p.filterShift.toNat
        gain := p.gain.toNat
        slew := p.slew.toNat
        lTrim := p.lTrim.toNat
        tol := p.tol.toNat
        wOut := p.wOut.toNat
        nSettle := p.nSettle.toNat
        capacity := p.capacity.toNat
        watermark := p.watermark.toNat
        shuttleTimeout := p.shuttleTimeout.toNat
        jamLimit := p.jamLimit.toNat
        arbiter := arbiter
        inspection := inspection
        verdictRate := verdictRate
        trimRate := trimRate }
  | _, _, _, _ => none

/-- A value within a range that includes both ends. -/
def inRange (lo x hi : Nat) : Bool := lo ≤ x && x ≤ hi

/-- R60: every field lies in its range, a bound being computed from the field carried in the same write. -/
def Settings.inRange (g : Settings) : Bool :=
  Machine.inRange 2000 g.pNom 65000 && Machine.inRange 16 g.wMark (g.pNom / 4) &&
  Machine.inRange 1 g.lossLimit 8 && Machine.inRange 1000 g.dDie 1000000 &&
  Machine.inRange 16 g.wDie (g.pNom / 2) && (-4000 ≤ g.oCut && g.oCut ≤ 4000) &&
  Machine.inRange (g.dDie + g.wDie + 1) g.dGate 1200000 && Machine.inRange 0 g.lMin 60000 &&
  Machine.inRange (g.lMin + 64) g.lMax 60000 && Machine.inRange 0 g.upstream 1000000 &&
  Machine.inRange 0 g.lead 65000 && Machine.inRange 0 g.trail 65000 &&
  Machine.inRange 16 g.rRev 65535 && Machine.inRange 0 g.filterShift 6 &&
  Machine.inRange 0 g.gain 16 && Machine.inRange 1 g.slew 1000 && Machine.inRange 1 g.lTrim 16000 &&
  Machine.inRange 1 g.tol 4000 && Machine.inRange g.tol g.wOut 32767 &&
  Machine.inRange 1 g.nSettle 32 && Machine.inRange 1 g.capacity 24 &&
  Machine.inRange 1 g.watermark g.capacity && Machine.inRange 100 g.shuttleTimeout 10000 &&
  Machine.inRange 1 g.jamLimit 8

/-- R36: the row check, D_gate + L_max ≤ 118 × (P_nom − W_mark). -/
def Settings.rowCheck (g : Settings) : Bool := g.dGate + g.lMax ≤ 118 * (g.pNom - g.wMark)

/-- R197: the 51 bytes of the geometry payload. -/
def geometryBytes (g : GeometryRecord) : List Byte :=
  let t := g.settings
  beBytes 2 t.pNom ++ beBytes 2 t.wMark ++ beBytes 1 t.lossLimit ++ beBytes 3 t.dDie ++ beBytes 2 t.wDie ++
  be16s t.oCut ++ beBytes 3 t.dGate ++ beBytes 2 t.lMin ++ beBytes 2 t.lMax ++ beBytes 4 t.upstream ++
  beBytes 2 t.lead ++ beBytes 2 t.trail ++ beBytes 2 t.rRev ++ beBytes 1 t.filterShift ++ beBytes 1 t.gain ++
  beBytes 2 t.slew ++ beBytes 2 t.lTrim ++ beBytes 2 t.tol ++ beBytes 2 t.wOut ++ beBytes 1 t.nSettle ++
  beBytes 1 t.capacity ++ beBytes 1 t.watermark ++ beBytes 2 t.shuttleTimeout ++ beBytes 1 t.jamLimit ++
  beBytes 1 t.arbiter.code ++ beBytes 1 t.inspection.code ++ beBytes 1 t.verdictRate.code ++
  beBytes 1 t.trimRate.code ++ be16s g.savedTrim

/-! ## Job payloads (R101, R193) -/

/-- R101: no byte outside 0x20 to 0x7E before the first 0x00 byte, and none but 0x00 after it. -/
def nameForm : List Byte → Bool
  | [] => true
  | b :: bs => if b = 0 then bs.all (fun c => c == 0) else (0x20#8 ≤ b && b ≤ 0x7E#8) && nameForm bs

/-- R101: the range checks of a JOB WRITE other than the slot and the serial mode. -/
def JobPayload.inRange (p : JobPayload) : Bool :=
  p.jobId != 0 && Machine.inRange 1 p.target.toNat 9999 && Machine.inRange 1 p.step.toNat 16 &&
  p.gapLimit.toNat ≤ 6 && p.sampleValue.toNat ≤ 63 && p.sampleMask.toNat ≤ 63 &&
  p.name.length == 16 && nameForm p.name

/-- R193: the 26 bytes from job id to sample mask and next stack ordinal. -/
def jobBytes (j : JobRecord) : List Byte :=
  beBytes 2 j.jobId.toNat ++ j.name ++ beBytes 2 j.target ++
  [byteOf j.serialMode.code, byteOf j.step, byteOf j.gapLimit, flagByte j.sampleEnable,
    byteOf j.sampleValue.toNat, byteOf j.sampleMask.toNat] ++
  beBytes 2 j.nextOrdinal.toNat

/-! ## Lane payloads (R109) -/

/-- R109: a lane weight. -/
def weightForm (w : Byte) : Bool := w == 1 || w == 2 || w == 4 || w == 8

/-- R109, R193: the slot argument of LANE WRITE: 0xFF means none. -/
def slotArg (b : Byte) : Option (Option JobSlot) :=
  if b = 0xFF then some none
  else
    match indexArg 16 b with
    | none => none
    | some j => some (some j)

/-! ## Counter payloads (R170) -/

/-- The configuration a COUNTER WRITE carries, or `none` when one of its values is not one of R166. In ACCUMULATE the window
length is not checked and is stored as 0 (R193). -/
def CounterPayload.config (p : CounterPayload) : Option CounterConfig :=
  match CounterUnit.ofCode p.unit.toNat, CounterMode.ofCode p.mode.toNat, CounterAction.ofCode p.action.toNat with
  | some unit, some mode, some action =>
    if mode = .window ∧ ¬(Machine.inRange 16 p.window.toNat 4096 = true) then none
    else
      some
        { damaged := false
          laneSet := p.laneSet
          mask := p.mask
          unit := unit
          mode := mode
          window := if mode = .window then p.window.toNat else 0
          threshold := p.threshold.toNat
          action := action }
  | _, _, _ => none

/-- R193: the 11 configuration bytes. -/
def counterBytes (c : CounterConfig) : List Byte :=
  beBytes 2 c.laneSet.toNat ++ beBytes 2 c.mask.toNat ++ [byteOf c.unit.code, byteOf c.mode.code] ++
  beBytes 2 c.window ++ beBytes 2 c.threshold ++ [byteOf c.action.code]

/-! ## Stack summaries and STACK READ (R198) -/

/-- R198: bytes 0 to 16 of the summary. A record QUARANTINED with cause DAMAGED is all zero but for its number, state and
cause, as R181 leaves it. -/
def stackHead (n : StackNo) (r : StackRecord) : List Byte :=
  [ byteOf n.val,
    byteOf (r.state.code + (if r.state = .quarantined .damaged then 8 else 0) +
      (if r.serial.isSome then 16 else 0) + 32 * sealCode r.sealReason),
    byteOf (r.lane + 16 * r.slot.val),
    byteOf (bitsOf [r.flags.short, r.flags.resumed, r.flags.lateReject, r.flags.suspect, r.flags.gapsIncomplete,
      r.deliverySeq.isSome]) ] ++
  beBytes 2 r.jobId.toNat ++ beBytes 2 r.ordinal.toNat ++ beBytes 2 r.target ++
  beBytes 2 r.committed ++ beBytes 2 r.landed ++ beBytes 2 r.lost ++ [r.lateRejects]

/-- R132: a record QUARANTINED with cause DAMAGED is reported with its state and cause and every other field zero. -/
def StackRecord.reported (r : StackRecord) : StackRecord :=
  if r.state = .quarantined .damaged then StackRecord.zero (.quarantined .damaged) else r

/-- R198: the 18-byte stack summary. -/
def stackSummary (n : StackNo) (r : StackRecord) : List Byte :=
  stackHead n r.reported ++ [byteOf (min r.reported.stray.toNat 255)]

/-- R198: the summary of a void queue entry. -/
def voidSummary : List Byte := 0xFF#8 :: List.replicate 17 0

/-- R198: the 23 bytes of part 0 of STACK READ. -/
def stackPart0 (n : StackNo) (r : StackRecord) : List Byte :=
  stackHead n r.reported ++ beBytes 2 r.reported.stray.toNat ++
  beBytes 4 (match r.reported.deliverySeq with | none => 0 | some q => q.toNat)

/-- R198: a serial field of 27 bits, 0x7FFFFFF when absent. -/
def serialField (v : Option Nat) : Nat :=
  match v with
  | none => 0x7FFFFFF
  | some k => k

/-- R198: a gap entry of 6 bytes. -/
def gapBytes (g : Gap) : List Byte :=
  beBytes 4 (g.start + 2 ^ 27 * causeCode (some g.cause)) ++ beBytes 2 g.length

/-- R198: the 60 bytes of part 1 of STACK READ. -/
def stackPart1 (r : StackRecord) : List Byte :=
  match r.reported.serial with
  | none => beBytes 4 (15 * 2 ^ 27) ++ List.replicate 56 0
  | some sp =>
    beBytes 4 (serialField sp.first + 2 ^ 27 * sp.gaps.length + (if r.flags.gapsIncomplete then 2 ^ 31 else 0)) ++
    beBytes 4 (serialField sp.lastCommitted + 2 ^ 27 * sp.foreseen) ++ beBytes 4 (serialField sp.lastLanded) ++
    (sp.gaps.take 8).flatMap gapBytes ++ List.replicate (6 * (8 - sp.gaps.length)) 0

/-! ## ROW READ (R38, R39, R198) -/

/-- R198: the flag byte of a row. -/
def rowFlagByte (f : RowFlags) : Byte :=
  byteOf (bitsOf [f.splice, f.misreg, f.miscut, f.marklost, f.settling, f.reverse, f.trimLimit, f.trimHeld])

/-- R198: the third byte of a lane in ROW READ. -/
def Disposition.detail : Disposition → Byte
  | .waste r => byteOf r.code
  | .stack n => byteOf n.val
  | _ => 0

/-- R198: the three bytes of a lane in part 0 of ROW READ. -/
def laneEntryBytes (e : LaneEntry) : List Byte :=
  [ (match e.snapshot with | none => 16 | some j => byteOf j.val),
    byteOf (e.camera.code + (if e.manual then 4 else 0) + 8 * e.disposition.code + 32 * e.landing.code),
    e.disposition.detail ]

/-- R38: finished is always set for a RETIRED row. -/
def RowRecord.shownFinished (r : RowRecord) : Bool := r.phase == .retired || r.finished

/-- R198: the 56 bytes of part 0 of ROW READ. -/
def rowPart0 (r : RowRecord) : List Byte :=
  beBytes 4 r.number.toNat ++
  [ byteOf (r.phase.code + 4 * bitsOf [r.shownFinished, r.origin == .synthetic, r.dieIndex.isSome, r.rawError.isSome]),
    rowFlagByte r.flags ] ++
  beBytes 4 r.mark.toNat ++ beBytes 4 r.expected.toNat ++
  beBytes 4 (match r.dieIndex with | none => 0 | some p => p.toNat) ++
  be16s (r.rawError.getD 0) ++ r.lanes.toList.flatMap laneEntryBytes

/-- R198: the 54 bytes of part 1 of ROW READ. -/
def rowPart1 (r : RowRecord) : List Byte :=
  beBytes 4 r.number.toNat ++ beBytes 2 (laneSetOf (fun l => r.lanes[l].serial.isSome)) ++
  r.lanes.toList.flatMap (fun e => beBytes 4 (e.serial.getD 0))

/-! ## Messages (R196) -/

/-- R196: the six bytes of a trim message. -/
def trimBytes (m : TrimMessage) : List Byte :=
  let body := [0x3C#8, m.tag] ++ be16s m.trim ++
    [byteOf (bitsOf [m.held, m.limit, m.misreg, m.miscut, m.settling])]
  body ++ [crc8 body]

/-- R44: the six bytes of an accepted candidate: exactly six characters, none spoiled, the sync value and the check. -/
def acceptedMessage (count : BitVec 8) (spoiled : Bool) (kept : List (Option Byte)) : Option (Byte × List Byte) :=
  if count = 6 ∧ spoiled = false then
    match kept with
    | [some b0, some b1, some b2, some b3, some b4, some b5] =>
      if b0 = 0xC3 ∧ b5 = crc8 [b0, b1, b2, b3, b4] then some (b1, [b2, b3, b4]) else none
    | _ => none
  else none

/-- R196: the code of a lane in bytes 2 to 4 of a verdict message; the lowest-numbered lane of a byte takes bits 1–0. -/
def laneCode (codes : List Byte) (l : Lane) : BitVec 2 :=
  ((codes.getD (l.val / 4) 0) >>> (2 * (l.val % 4))).setWidth 2

end Sys2Proof.Machine
end

