-- ==== Sys2Proof/Machine/RecordMemory.lean ====
section
/-! DEFINITION. Record memory (Chapter 10) and what a read of a record can set off: the check (R179), the damage rewrite
(R181) and its effects on the owners (R182, R183), and with them sealing, completion and pushing of stacks (R125 to R128),
the shuttle grant (R141 to R144), the drain (R163, R164) and the emptying of a job slot (R106). Each operation that reads a
record takes the reader `rd` as its first argument; `readRecord` ties the knot. -/

namespace Sys2Proof.Machine

/-- A read of a record by the part, with every effect the read has. -/
abbrev Reader := RecordRef → State → State

/-! ## The check (R178, R179) -/

/-- R178: the words of a record. -/
def RecordRef.words : RecordRef → Nat
  | .geometry => 16
  | .job _ => 8
  | .lane _ => 2
  | .stack _ => 24
  | .counter _ => 3

/-- R178: every record in ascending record index, 0 to 96. -/
def allRecords : List RecordRef :=
  [.geometry] ++ (List.finRange 16).map .job ++ (List.finRange 12).map .lane ++ (List.finRange 64).map .stack ++
    (List.finRange 4).map .counter

/-- The flipped bits of one word. -/
def State.wordFlips (s : State) (ref : RecordRef) (w : Nat) : List Nat :=
  (s.memory.flips.filter (fun f => f.ref == ref && f.word == w)).map Flip.bit

/-- R179: what the code reports of a word: it corrects any one flipped bit and detects any two; beyond that the report is a
free value (log entry 5). -/
def wordReport : List Nat → WordReport
  | [] => .clean
  | [b] => .single b
  | [_, _] => .uncorrectable
  | bits => Config.eccReport bits

/-- The reports of the words of a record. -/
def State.reports (s : State) (ref : RecordRef) : List (Nat × WordReport) :=
  (List.range ref.words).map (fun w => (w, wordReport (s.wordFlips ref w)))

/-- R179: some word of the record holds an error the code cannot correct. -/
def State.uncorrectable (s : State) (ref : RecordRef) : Bool :=
  (s.reports ref).any (fun p => p.2 == .uncorrectable)

/-- The words of the record in which the code reports a single-bit error, with the bit it names. -/
def State.singleErrors (s : State) (ref : RecordRef) : List (Nat × Nat) :=
  (s.reports ref).filterMap (fun p => match p.2 with | .single b => some (p.1, b) | _ => none)

/-- The flipped bits of the record that stand in words with three or more of them. -/
def State.beyondCode (s : State) (ref : RecordRef) : List Flip :=
  s.memory.flips.filter (fun f => f.ref == ref && f.word < ref.words && 3 ≤ (s.wordFlips ref f.word).length)

/-- R179: words used as stored, or corrected at a wrong bit, hand on other data than was written: a free value (log
entry 5). -/
def State.misread (s : State) (ref : RecordRef) : State :=
  if (s.beyondCode ref).isEmpty then s
  else
    match ref with
    | .geometry => s.setGeometry (Config.misreadGeometry (s.beyondCode ref) s.memory.geometry)
    | .job j => s.setJob j (Config.misreadJob (s.beyondCode ref) s.memory.jobRecs[j])
    | .lane l => s.setLaneRec l (Config.misreadLane (s.beyondCode ref) s.memory.laneRecs[l])
    | .stack n => s.setStack n (Config.misreadStack (s.beyondCode ref) s.memory.stackRecs[n])
    | .counter c => s.setCounterRec c (Config.misreadCounter (s.beyondCode ref) s.memory.counterRecs[c])

/-- R179, R185: the flipped bits of the record after a read that marked nothing: none, for corrected words are written back;
while PFAIL is asserted each corrected word keeps the one bit the code named. -/
def State.flipsAfterRead (s : State) (ref : RecordRef) : List Flip :=
  s.memory.flips.filter (fun f => f.ref != ref) ++
    (if s.pfail then (s.singleErrors ref).map (fun p => ⟨ref, p.1, p.2⟩) else [])

/-- R179, second row: each word with a single-bit error is corrected, written back and counted once, and RECORD_CORRECTED is
raised. A read of a clean record changes nothing. -/
def State.correct (s : State) (ref : RecordRef) : State :=
  let k := (s.singleErrors ref).length
  let t := s.misread ref
  let u := { t with memory := { t.memory with
              flips := s.flipsAfterRead ref, corrected := satAdd t.memory.corrected k } }
  if k = 0 then u else u.raise .recordCorrected

/-- R181: the damage rewrite sets the mark and makes every other field zero. -/
def State.rewrite (s : State) : RecordRef → State
  | .geometry =>
    s.setGeometry
      { damaged := true
        settings :=
          { pNom := 0, wMark := 0, lossLimit := 0, dDie := 0, wDie := 0, oCut := 0, dGate := 0, lMin := 0, lMax := 0,
            upstream := 0, lead := 0, trail := 0, rRev := 0, filterShift := 0, gain := 0, slew := 0, lTrim := 0, tol := 0,
            wOut := 0, nSettle := 0, capacity := 0, watermark := 0, shuttleTimeout := 0, jamLimit := 0,
            arbiter := .strict, inspection := .required, verdictRate := .b115200, trimRate := .b115200 }
        savedTrim := 0 }
  | .job j => s.setJob j (JobRecord.zero .damaged)
  | .lane l =>
    s.setLaneRec l { damaged := true, enabled := false, slot := none, origin := 0, priority := 0, weight := 0 }
  | .stack n => s.setStack n (StackRecord.zero (.quarantined .damaged))
  | .counter c =>
    s.setCounterRec c
      { damaged := true, laneSet := 0, mask := 0, unit := .label, mode := .window, window := 0, threshold := 0,
        action := .attn }

/-- R181, steps 1 and 2: the damage rewrite, or the damaged set while PFAIL is asserted; RECORD_DAMAGED is raised. -/
def State.markDamaged (s : State) (ref : RecordRef) : State :=
  if s.pfail then
    { s with memory := { s.memory with damagedSet := ref :: s.memory.damagedSet } }.raise .recordDamaged
  else ((s.rewrite ref).clearFlips ref).raise .recordDamaged

/-! ## Completion and pushing (R126 to R128) -/

/-- R127: a complete record moves on: FREE when nothing was committed, HELD when the ready position is occupied, READY with
a PUSH pulse otherwise. A move to READY is offered to the arbiter by the caller. -/
def State.moveComplete (s : State) (n : StackNo) : State :=
  let r := s.stack n
  let short := { r.flags with short := r.flags.short || r.landed < r.target }
  if r.committed = 0 then (s.setStack n r.freed).unblockLanes
  else if (s.readyOf (laneOfNumber r.lane)).isSome then s.setStack n { r with state := .held, flags := short }
  else (s.setStack n { r with state := .ready, flags := short }).emit (.push (laneOfNumber r.lane))

/-- R126: a SEALED record is complete when landed + lost equals committed. -/
def StackRecord.complete (r : StackRecord) : Bool :=
  r.state == .sealed && r.landed + r.lost == r.committed

/-- R128: the lane's HELD record moves to READY with a PUSH pulse when the lane holds no READY record. -/
def State.pushHeldWith (rd : Reader) (l : Lane) (s : State) : State :=
  match s.heldOf l with
  | none => s
  | some n =>
    if (s.readyOf l).isSome then s
    else
      let t := rd (.stack n) s
      if (t.stack n).state = .held ∧ (t.stack n).lane = laneNumber l ∧ (t.readyOf l).isNone then
        (t.setStack n { t.stack n with state := .ready }).emit (.push l)
      else t

/-! ## The shuttle grant (R141 to R144) -/

/-- The lanes that hold a READY record, in ascending lane number. -/
def State.readyLanes (s : State) : List Lane := (List.finRange 12).filter (fun l => (s.readyOf l).isSome)

/-- R141, R156: the conditions of a grant. -/
def State.canGrant (s : State) : Bool :=
  !s.pfail && s.shuttle.state == .idle && !s.readyLanes.isEmpty && s.queue.entries.length < s.work.capacity

/-- R142: among READY lanes the lowest priority value wins, then the lowest lane number. -/
def State.strictWinner (s : State) : Option Lane :=
  s.readyLanes.foldl
    (fun best l =>
      match best with
      | none => some l
      | some b => if (s.laneRec l).priority < (s.laneRec b).priority then some l else some b)
    none

/-- R143: the lanes in the order of the search: from the lane after the last winner, wrapping from 12 to 1. -/
def State.searchOrder (s : State) : List Lane :=
  let start := match s.shuttle.lastWinner with
    | none => 0
    | some l => l.val + 1
  (List.range 12).map (fun i => Fin.ofNat 12 (start + i))

/-- R143: the first lane met that holds a READY record and has a credit above 0. -/
def State.weightedWinner (s : State) : Option Lane :=
  s.searchOrder.find? (fun l => (s.readyOf l).isSome && 0 < s.shuttle.credits[l])

/-- R143: every lane's credit reloaded to the weight in its lane record. -/
def State.reloadCredits (s : State) : State :=
  { s with shuttle := { s.shuttle with credits := vtab (fun l => (s.laneRec l).weight) } }

/-- A read of each record of a list, in order. -/
def readAll (rd : Reader) (refs : List RecordRef) (s : State) : State := refs.foldl (fun t r => rd r t) s

/-- R144, steps 2 to 8: the transfer of the lane's READY record starts. -/
def State.startTransfer (rd : Reader) (l : Lane) (n : StackNo) (s : State) : State :=
  let a := s.setStack n { s.stack n with state := .transfer }
  let b := { a with shuttle := { a.shuttle with state := .moving l n a.work.shuttleTimeout } }.emit (.go l)
  let c :=
    if b.work.arbiter = .weighted then
      { b with shuttle := { b.shuttle with
          credits := vset b.shuttle.credits l (b.shuttle.credits[l] - 1), lastWinner := some l } }
    else b
  (State.pushHeldWith rd l c).unblockLanes

/-- R142, R143: the state after the lane records that the choice reads have been read (and, in WEIGHTED mode, the credits
reloaded when the first search finds no winner), and the lane chosen. When a lane record read for the reload is found
damaged and what follows already makes a grant, or leaves none to make, no credit is reloaded from the reads made: the
model's choice (log entry 20). -/
def State.chooseLane (rd : Reader) (s : State) : State × Option Lane :=
  match s.work.arbiter with
  | .strict =>
    let t := readAll rd (s.readyLanes.map .lane) s
    (t, if t.canGrant then t.strictWinner else none)
  | .weighted =>
    match s.weightedWinner with
    | some l => (s, some l)
    | none =>
      let t := readAll rd ((List.finRange 12).map .lane) s
      if t.canGrant then (t.reloadCredits, t.reloadCredits.weightedWinner) else (t, none)

/-- R141, R144: the arbiter tests the conditions and makes the grant when they hold. A record found damaged at the read of
step 1 gets no grant; its damage has tested the conditions again (R182). -/
def State.grantWith (rd : Reader) (s : State) : State :=
  if s.canGrant then
    let c := State.chooseLane rd s
    match c.2 with
    | none => c.1
    | some l =>
      match c.1.readyOf l with
      | none => c.1
      | some n =>
        let t := rd (.stack n) c.1
        if t.canGrant = true ∧ (t.stack n).state = .ready ∧ (t.stack n).lane = laneNumber l then
          State.startTransfer rd l n t
        else t
  else s

/-! ## Sealing (R125, R126) -/

/-- R126, R137: the completion test, with the offer to the arbiter when the record becomes READY (R141). -/
def State.completeWith (rd : Reader) (n : StackNo) (s : State) : State :=
  if s.pfail = false ∧ (s.stack n).complete = true then
    let t := s.moveComplete n
    if (t.stack n).state = .ready then State.grantWith rd t else t
  else s

/-- R125: a seal of an OPEN record, followed by the completion test. -/
def State.sealWith (rd : Reader) (n : StackNo) (reason : SealReason) (s : State) : State :=
  State.completeWith rd n
    (s.setStack n { s.stack n with state := .sealed, sealReason := some reason })

/-- R125, R137: the lane's OPEN record is read for the seal and sealed, unless it is found damaged or PFAIL is asserted;
with the number of the record sealed. -/
def State.sealLaneWith (rd : Reader) (l : Lane) (reason : SealReason) (s : State) : State × Option StackNo :=
  if s.pfail then (s, none)
  else
    match s.openOf l with
    | none => (s, none)
    | some n =>
      let t := rd (.stack n) s
      if (t.stack n).state = .opened ∧ (t.stack n).lane = laneNumber l then
        (State.sealWith rd n reason t, some n)
      else (t, none)

/-! ## The drain (R163, R164) and the emptying of a slot (R106) -/

/-- R163, step 3: T is written as the saved trim, unless the record is damaged or PFAIL is asserted. -/
def State.saveTrimWith (rd : Reader) (s : State) : State :=
  if s.pfail = true ∨ s.geometryDamaged = true then s
  else
    let t := rd .geometry s
    if t.geometryDamaged then t
    else t.setGeometry { t.memory.geometry with savedTrim := t.register.trim }

/-- R163: the drain is complete when the line is DRAINING and the ring holds no open row. -/
def State.drainWith (rd : Reader) (s : State) : State :=
  if s.modes.mode = .draining ∧ s.ring.openCount = 0 then
    (State.saveTrimWith rd
      { s with modes := { s.modes with mode := .parked } }.gatesToWaste).raise .modeReached
  else s

/-- R161, R164: entry to DRAINING with target PARK: the mark expectation becomes UNSYNCED, and an empty ring completes the
drain in the same event. A reverse event still to be taken does not occur in DRAINING (R5). -/
def State.enterDrainingWith (rd : Reader) (s : State) : State :=
  State.drainWith rd
    { s with
        modes := { mode := .draining, target := .park }
        position := { s.position with expectation := none, reverseDue := false } }

/-- R106: the row origin of a lane that names a slot become EMPTY or DAMAGED is NONE, and its running condition is tested. -/
def State.laneLosesJob (s : State) (l : Lane) : State :=
  (s.setLane l { s.lanes[l] with rowOrigin := .none }).retestLane l

/-- R106: the lane table's part when a slot becomes EMPTY or DAMAGED. -/
def State.slotGone (s : State) (j : JobSlot) : State :=
  (List.finRange 12).foldl (fun t l => if t.laneNames l j then t.laneLosesJob l else t) s

/-! ## The effects of damage (R182, R183) -/

/-- R150: the queue entry of a stack becomes void in place. -/
def State.voidEntry (s : State) (n : StackNo) : State :=
  { s with queue := { s.queue with entries := s.queue.entries.map (fun e => if e = some n then none else e) } }

/-- R182: the effects of a stack record marked damaged, by the state it was in. -/
def State.stackDamagedWith (rd : Reader) (was : StackRecord) (n : StackNo) (s : State) : State :=
  match was.state with
  | .free => s
  | .opened => s
  | .sealed => s.unblockLanes
  | .held => s.unblockLanes
  | .ready =>
    if s.pfail then s.unblockLanes
    else State.grantWith rd (State.pushHeldWith rd (laneOfNumber was.lane) s).unblockLanes
  | .transfer => s.unblockLanes
  | .delivered => s.voidEntry n
  | .quarantined _ => s

/-- R183: a lane record marked damaged: row origin NONE, running condition tested, OPEN stack sealed with LANE_OFF. -/
def State.laneDamagedWith (rd : Reader) (l : Lane) (s : State) : State :=
  (State.sealLaneWith rd l .laneOff (s.laneLosesJob l)).1

/-- R183: the geometry record marked damaged: T is set to 0, and a line in SEEK or TRACKING enters DRAINING (R164). -/
def State.geometryDamagedWith (rd : Reader) (s : State) : State :=
  let t := { s with register := { s.register with trim := 0 } }
  if t.modes.mode = .seek ∨ t.modes.mode = .tracking then State.enterDrainingWith rd t else t

/-- R183: a counter configuration marked damaged: the counter's values become 0. -/
def State.counterDamaged (c : CounterNo) (s : State) : State :=
  { s with counters := vset s.counters c { s.counters[c] with working := 0, published := 0, rows := 0 } }

/-- R181, step 3: the owner applies the effects of R182 or R183. -/
def State.ownerEffectsWith (rd : Reader) (before : State) (ref : RecordRef) (s : State) : State :=
  match ref with
  | .geometry => State.geometryDamagedWith rd s
  | .job j => s.slotGone j
  | .lane l => State.laneDamagedWith rd l s
  | .stack n => State.stackDamagedWith rd (before.stack n) n s
  | .counter c => State.counterDamaged c s

/-! ## Reads -/

/-- R179, R181: one read of a record. A record that is damaged already reads clean and is not marked again. The fuel bounds
the reads that damage effects make in turn: each of them comes after one more record has been marked. -/
def readFuel : Nat → Reader
  | 0, _, s => s
  | fuel + 1, ref, s =>
    if s.isDamaged ref then s
    else if s.uncorrectable ref then State.ownerEffectsWith (readFuel fuel) s ref (s.markDamaged ref)
    else s.correct ref

/-- R179: a read of a record by the part. There are 97 records, so 98 levels of damage within damage cannot occur. -/
def readRecord : Reader := readFuel 98

/-- R187, step 1: a read of the restore scan: the check and the damage rewrite, without the owners' effects. -/
def scanRecord (ref : RecordRef) (s : State) : State :=
  if s.isDamaged ref then s
  else if s.uncorrectable ref then s.markDamaged ref
  else s.correct ref

/-! ## The operations as the blocks use them -/

abbrev State.pushHeld (s : State) (l : Lane) : State := State.pushHeldWith readRecord l s

abbrev State.grant (s : State) : State := State.grantWith readRecord s

abbrev State.completeTest (s : State) (n : StackNo) : State := State.completeWith readRecord n s

abbrev State.seal (s : State) (n : StackNo) (reason : SealReason) : State := State.sealWith readRecord n reason s

abbrev State.sealLane (s : State) (l : Lane) (reason : SealReason) : State × Option StackNo :=
  State.sealLaneWith readRecord l reason s

abbrev State.drainTest (s : State) : State := State.drainWith readRecord s

abbrev State.enterDraining (s : State) : State := State.enterDrainingWith readRecord s

/-- R106: an ENDING slot that no open row references becomes EMPTY; while PFAIL is asserted the change is not made. The
record is read before it is written. -/
def State.emptySlot (s : State) (j : JobSlot) : State :=
  if s.pfail = false ∧ (s.job j).state = .ending ∧ s.slotReferenced j = false then
    let t := readRecord (.job j) s
    if (t.job j).state = .ending then (t.setJob j { t.job j with state := .empty }).slotGone j else t
  else s

end Sys2Proof.Machine
end

