-- ==== Sys2Proof/Machine/Register.lean ====
section
/-! DEFINITION. Die register control (Chapter 4): association of die index pulses, missed cuts, the register loop, the trim
transmitter, and the commands DIE_INDEX, DIE_WINDOW_END and TRIM_MESSAGE_SENT. -/

namespace Sys2Proof.Machine

/-! ## The trim link (R70, R71) -/

/-- R70: the trim message of a row at its die resolution. -/
def trimMessageOf (s : State) (r : RowRecord) : TrimMessage where
  tag := tagOf r.number
  trim := s.register.trim
  held := r.flags.trimHeld
  limit := r.flags.trimLimit
  misreg := r.flags.misreg
  miscut := r.flags.miscut
  settling := r.flags.settling

/-- R71: the transmitter begins to send a message at the trim-link rate of the working copy. Its characters are put out by
its end (log entry 14). -/
def State.startMessage (s : State) (m : TrimMessage) : State :=
  { s with register := { s.register with sending := some (m, s.work.trimRate) } }

/-- R70, R71, R77: the first `k` characters of the message being sent, put out on TTX at the rate it began with. -/
def State.putTrim (s : State) (k : Nat) : State :=
  match s.register.sending with
  | none => s
  | some now => if k = 0 then s else s.emit (.trim ((trimBytes now.1).take k) now.2)

/-- R71: a message queued in IDLE is sent at once; in SENDING it waits, and displaces the oldest of four that wait. -/
def State.queueTrim (s : State) (m : TrimMessage) : State :=
  match s.register.sending with
  | none => s.startMessage m
  | some _ =>
    if s.register.waiting.length < 4 then
      { s with register := { s.register with waiting := s.register.waiting ++ [m] } }
    else
      { s with register := { s.register with
          waiting := s.register.waiting.tail ++ [m], overruns := satInc s.register.overruns } }

/-- R71: the idle gap after a message completes: its six characters are out, and the oldest waiting message is taken, or the
transmitter enters IDLE. -/
def State.messageSent (s : State) : State :=
  match s.register.sending with
  | none => s
  | some _ =>
    match s.register.waiting with
    | [] => { s.putTrim 6 with register := { s.register with sending := none } }
    | m :: ms => { s.putTrim 6 with register := { s.register with waiting := ms } }.startMessage m

/-! ## Die resolution (R64 to R69) -/

/-- R65 to R68: the row after an association at `p`, with F16, T and whether the limit clamp acted. -/
structure LoopResult where
  f16 : Int
  trim : Int
  outlier : Bool
  limited : Bool
  deriving DecidableEq, Repr

/-- R65, R67, R68, R69: one sample `e` through the register loop with the settings of the working copy. -/
def registerLoop (g : Settings) (f16 trim e : Int) : LoopResult :=
  if (g.wOut : Int) < e.natAbs then
    { f16 := f16, trim := trim, outlier := true, limited := false }
  else
    let f := filterNext f16 e g.filterShift
    let t := trim - correctionOf f g.gain g.slew
    { f16 := f
      trim := clampInt (-(g.lTrim : Int)) g.lTrim t
      outlier := false
      limited := decide (t < -(g.lTrim : Int) ∨ (g.lTrim : Int) < t) }

/-- R64: the row's record after an association at `p`. -/
def associatedRow (g : Settings) (r : RowRecord) (p : Pos) (res : LoopResult) : RowRecord :=
  let e := rawErrorOf p r.expected
  { r with
      dieIndex := some p
      rawError := some e
      phase := .cut
      flags :=
        { r.flags with
            misreg := r.flags.misreg || decide ((g.tol : Int) < e.natAbs)
            trimLimit := r.flags.trimLimit || res.limited
            trimHeld := r.flags.trimHeld || res.outlier } }

/-- R64 to R70: a die index pulse at `p` is associated with the row in slot `i`, as one event. -/
def State.associate (s : State) (i : RingSlot) (r : RowRecord) (p : Pos) : State :=
  let res := registerLoop s.work s.register.f16 s.register.trim (rawErrorOf p r.expected)
  let row := associatedRow s.work r p res
  let t :=
    { s with register := { s.register with
        f16 := res.f16
        trim := res.trim
        outliers := if res.outlier then satInc s.register.outliers else s.register.outliers } }.setRow i row
  let u := if res.limited then t.raise .trimSaturated else t
  u.queueTrim (trimMessageOf u row)

/-- R66, R69: the record of a row whose cut is missed. -/
def missedRow (r : RowRecord) : RowRecord :=
  { r with phase := .cut, flags := { r.flags with miscut := true, trimHeld := true } }

/-- R66, R30: the row's cut is missed: MISCUT and TRIM_HELD, phase CUT, the missed-cut count, and the trim message. -/
def State.missCut (s : State) (i : RingSlot) (r : RowRecord) : State :=
  let t := { s with register := { s.register with missedCuts := satInc s.register.missedCuts } }.setRow i (missedRow r)
  t.queueTrim (trimMessageOf t (missedRow r))

/-- R64: the row's die capture window contains `p`: its E lies within W_die of `p`. -/
def State.dieWindowHas (s : State) (p : Pos) (r : RowRecord) : Bool :=
  r.phase == .opened && (posDiff p r.expected).natAbs ≤ s.work.wDie

/-- R64: a pulse on DIE INDEX at the present position. -/
def State.takeDieIndex (s : State) : State :=
  if posBefore s.position.position s.position.highWater then
    { s with register := { s.register with backIndex := satInc s.register.backIndex } }
  else
    match s.findOpen (s.dieWindowHas s.position.position) with
    | none => { s with register := { s.register with strayIndex := satInc s.register.strayIndex } }
    | some i =>
      match s.rowAt i with
      | none => s
      | some r => s.associate i r s.position.position

/-- R3, R66: the oldest row in phase OPEN whose die window end the web has just passed. A row opened by a mark stands at
its mark until the web moves on, so a window end passed at the row's own mark was passed before the row was opened, and is
not passed again; a synthetic row's, passed at the up-count that opens the row, is taken as passed (log entry 4). Two rows
can pass theirs at one count (after an OFFSET NUDGE), and the rules give no order: the oldest first is the model's choice
(log entry 35). -/
def State.dueDieWindow (s : State) : Option RingSlot :=
  s.findOpen (fun r => r.phase == .opened && s.passes (dieWindowEndOf s r) && s.position.highWater != r.mark)

/-- R66: the die window end passed is acted on. -/
def State.takeDieWindowEnd (s : State) : State :=
  match s.dueDieWindow with
  | none => s
  | some i =>
    match s.rowAt i with
    | none => s
    | some r => s.missCut i r

/-! ## Settling (R72, R73, R162) -/

/-- R73, R162: the settle count has reached N_settle in SEEK: the mode rises to TRACKING and MODE_REACHED is raised. -/
def State.riseTest (s : State) : State :=
  if s.modes.mode = .seek ∧ s.work.nSettle ≤ s.register.settle then
    { s with modes := { s.modes with mode := .tracking } }.raise .modeReached
  else s

/-- The settle count set. -/
def State.setSettle (s : State) (k : Nat) : State :=
  { s with register := { s.register with settle := k } }

/-! ## The commands -/

/-- DIE_INDEX (R64). -/
def execDieIndex (s : State) : Result := .next s.takeDieIndex

/-- DIE_WINDOW_END (R66). -/
def execDieWindowEnd (s : State) : Result := .next s.takeDieWindowEnd

/-- TRIM_MESSAGE_SENT (R71). -/
def execTrimMessageSent (s : State) : Result := .next s.messageSent

/-- RISE_TO_TRACKING (R73, R162). -/
def execRiseToTracking (s : State) : Result := .next s.riseTest

end Sys2Proof.Machine
end

