-- ==== Sys2Proof/Machine/Rows.lean ====
section
/-! DEFINITION. The row ring (Chapter 2): opening a row (R16 to R18, R24 to R27, R184), retirement (R32 to R34), and the
commands ROW_RETIRE, SLOT_EMPTY and DRAIN_COMPLETE. -/

namespace Sys2Proof.Machine

/-! ## Opening -/

/-- How a row was opened (R18). -/
inductive Opening
  | window | acquisition | synthetic
  deriving DecidableEq, Repr

/-- R7: the repeat of a row with mark `m` overlaps a zone. -/
def overlapsZone (s : State) (m : Pos) (zone : Pos × Pos) : Bool :=
  decide (posBefore zone.1 (posAdd m s.work.pNom)) && decide (posBefore m zone.2)

/-- R27: the entry of a lane whose snapshot is none. -/
def LaneEntry.blank : LaneEntry where
  snapshot := none
  camera := .pending
  manual := false
  disposition := .undecided
  landing := .none
  serial := none

/-- R16, R17, R24, R25: the record of a new row before its per-lane part is written. -/
def newRow (s : State) (how : Opening) (m : Pos) : RowRecord where
  number := s.ring.next
  origin := if how = .synthetic then .synthetic else .mark
  mark := m
  expected := posAdd m (s.work.dDie + s.work.oCut)
  dieIndex := none
  rawError := none
  flags :=
    { splice := s.position.zone.any (overlapsZone s m)
      misreg := false
      miscut := false
      marklost := decide (how = .synthetic)
      settling := decide (s.modes.mode = .seek)
      reverse := false
      trimLimit := false
      trimHeld := false }
  phase := .opened
  lanes := Vector.replicate 12 LaneEntry.blank

/-- R27, R108, R112: the entry of a lane in row `number`, and the lane's row origin after the opening. -/
def laneOpening (s : State) (number : RowNo) (l : Lane) : LaneEntry × RowOrigin :=
  let cfg := s.laneRec l
  match cfg.slot with
  | none => (LaneEntry.blank, s.lanes[l].rowOrigin)
  | some j =>
    let job := s.job j
    if cfg.enabled = true ∧ s.lanes[l].run ≠ .off ∧ job.state = .active ∧
        ¬(job.serialized = true ∧ s.lanes[l].rowOrigin = .none) then
      if job.serialized then
        match s.lanes[l].rowOrigin with
        | .row r0 =>
          ({ LaneEntry.blank with
               snapshot := some j
               serial := some (serialAt job.serialMode job.step cfg.origin (number - r0).toNat) }, .row r0)
        | _ =>
          ({ LaneEntry.blank with
               snapshot := some j, serial := some (serialAt job.serialMode job.step cfg.origin 0) }, .row number)
      else ({ LaneEntry.blank with snapshot := some j }, s.lanes[l].rowOrigin)
    else (LaneEntry.blank, s.lanes[l].rowOrigin)

/-- The records that an opening reads for a lane, and that a test of its running condition looks at: the lane record, and the
job record an enabled lane names (R27, R88). -/
def State.readForOpening (s : State) (l : Lane) : State :=
  let t := readRecord (.lane l) s
  match (t.laneRec l).slot with
  | none => t
  | some j => if (t.laneRec l).enabled then readRecord (.job j) t else t

/-- R27: one lane's entry written into the row being opened. -/
def State.openLane (i : RingSlot) (number : RowNo) (s : State) (l : Lane) : State :=
  let t := s.readForOpening l
  let o := laneOpening t number l
  let u := t.setLane l { t.lanes[l] with rowOrigin := o.2 }
  match u.rowAt i with
  | none => u
  | some r => u.setRow i (r.setEntry l o.1)

/-- R18, R72, R73: the register unit's part of an opening. The mode is the one that stood when the row was opened. -/
def State.settleAtOpening (s : State) (how : Opening) : State :=
  if s.modes.mode = .seek then
    match how with
    | .window => (s.setSettle (min (s.register.settle + 1) 32)).riseTest
    | .acquisition => s
    | .synthetic => s.setSettle 0
  else s

/-- R184: the scrubber reads its next record and advances. -/
def State.scrub (s : State) : State :=
  let t := readRecord (allRecords.getD s.memory.scrub .geometry) s
  { t with memory := { t.memory with scrub := (s.memory.scrub + 1) % 97 } }

/-- R8: the splice zone is dropped when a row is opened with M at or past its end. -/
def State.dropZone (s : State) (m : Pos) : State :=
  match s.position.zone with
  | none => s
  | some z => if 0 ≤ posDiff m z.2 then { s with position := { s.position with zone := none } } else s

/-- R15, R24: the ring takes the new record into slot N modulo 128, advances the next row number and the open count, and
the position unit takes M as the spacing reference. -/
def State.placeRow (s : State) (how : Opening) (m : Pos) : State :=
  { s with
      position := { s.position with spacing := some m }
      ring :=
        { slots := vset s.ring.slots (ringSlot s.ring.next) (some (newRow s how m))
          next := s.ring.next + 1
          openCount := s.ring.openCount + 1 } }

/-- R16 to R18, R24 to R27: a row is opened at M, as one event: the record and its lanes, the settle count and the rise, the
scrubber, and the drop test of the splice zone, in that order (log entry 19). The gate point and the die window follow from
M and E. -/
def State.openRow (s : State) (how : Opening) (m : Pos) : State :=
  let t := (List.finRange 12).foldl (State.openLane (ringSlot s.ring.next) s.ring.next) (s.placeRow how m)
  (State.scrub (t.settleAtOpening how)).dropZone m

/-! ## Retirement -/

/-- R34: the job table tests every slot named in the retired row's snapshots. -/
def State.reportRetired (s : State) (r : RowRecord) : State :=
  (List.finRange 16).foldl
    (fun t j => if r.lanes.toList.any (fun e => e.snapshot == some j) then t.emptySlot j else t) s

/-- R33: the oldest open row retires if it is finished, then the row that then stands oldest, and so on; the fuel is the open
count. The mode controller is told when the open count reaches zero (R34). -/
def retireFuel : Nat → State → State
  | 0, s => s
  | fuel + 1, s =>
    match s.rowAt (ringSlot s.oldestNumber) with
    | none => s
    | some r =>
      if s.ring.openCount ≠ 0 ∧ r.finished = true then
        let t := s.setRow (ringSlot s.oldestNumber) { r with phase := .retired }
        let u := { t with ring := { t.ring with openCount := t.ring.openCount - 1 } }.reportRetired r
        if u.ring.openCount = 0 then u.drainTest else retireFuel fuel u
      else s

/-- R32, R33: the finished test of the ring. -/
def State.retireRows (s : State) : State := retireFuel s.ring.openCount s

/-! ## The commands -/

/-- ROW_RETIRE (R33). -/
def execRowRetire (s : State) : Result := .next s.retireRows

/-- SLOT_EMPTY (R106). -/
def execSlotEmpty (j : JobSlot) (s : State) : Result := .next (s.emptySlot j)

/-- DRAIN_COMPLETE (R163). -/
def execDrainComplete (s : State) : Result := .next s.drainTest

end Sys2Proof.Machine
end

