-- ==== Sys2Proof/Machine/Gate.lean ====
section
/-! DEFINITION. The gate decision (Chapter 5, sections 5.1 to 5.5) and the condition counters it feeds (R167 to R169): the
commands GATE_POINT, WINDOW_PUBLISH, THRESHOLD_REACHED and LANE_UNBLOCK. -/

namespace Sys2Proof.Machine

/-! ## One lane's disposition (R80 to R85) -/

/-- The lane's entry of the row in slot `i`, written. -/
def State.setEntry (s : State) (i : RingSlot) (l : Lane) (e : LaneEntry) : State :=
  match s.rowAt i with
  | none => s
  | some r => s.setRow i (r.setEntry l e)

/-- R80, R87: the lane's label is wasted; the skip cause is set when none is held. -/
def State.wasteLabel (s : State) (i : RingSlot) (row : RowNo) (l : Lane) (e : LaneEntry) (w : WasteReason) : State :=
  (s.setLane l (s.lanes[l].skip (.waste w) row)).setEntry i l { e with disposition := .waste w }

/-- R82, R87: the lane's label goes to the sample tray. -/
def State.sampleLabel (s : State) (i : RingSlot) (row : RowNo) (l : Lane) (e : LaneEntry) : State :=
  (s.setLane l (s.lanes[l].skip .sample row)).setEntry i l { e with disposition := .sample }

/-- R81: the lane is wasted with LANE_OFF. -/
def laneOffHolds (s : State) (l : Lane) (e : LaneEntry) : Bool :=
  match e.snapshot with
  | none => true
  | some j => s.lanes[l].run == .off || (s.job j).state == .damaged

/-- Lines 2 to 12 of R80, in their order. -/
def wasteLine (s : State) (l : Lane) (f : RowFlags) (e : LaneEntry) : Option WasteReason :=
  if s.lanes[l].run = .jammed then some .jam
  else if f.reverse then some .reverse
  else if f.marklost then some .marklost
  else if f.settling then some .settling
  else if f.splice then some .splice
  else if f.miscut then some .miscut
  else if f.misreg then some .misreg
  else if e.camera = .print then some .print
  else if e.camera = .blank then some .blank
  else if e.manual then some .manual
  else if e.camera = .pending ∧ s.work.inspection = .required then some .noverdict
  else none

/-- R82: the sample filter matches a row: the low 6 bits of its number agree with the value wherever the mask is set. -/
def sampleMatches (j : JobRecord) (row : RowNo) : Bool :=
  j.sampleEnable && (row.setWidth 6 ^^^ j.sampleValue) &&& j.sampleMask == 0

/-- R81: the job of a stack record is no longer the ACTIVE job of its slot. -/
def jobEnded (s : State) (r : StackRecord) : Bool :=
  (s.job r.slot).state != .active || (s.job r.slot).jobId != r.jobId

/-- R79: the lane's OPEN, SEALED, HELD and READY records are read. -/
def State.readLaneStacks (s : State) (l : Lane) : State :=
  readAll readRecord
    (((List.finRange 64).filter (fun n =>
        ((s.stack n).state == .opened || (s.stack n).piled) && (s.stack n).lane == laneNumber l)).map .stack) s

/-- R79: the lowest-numbered FREE record is read, and in the place of one found damaged the next; the fuel is the number of
records. -/
def State.readFree : Nat → State → State
  | 0, s => s
  | fuel + 1, s =>
    match s.lowestFree with
    | none => s
    | some n =>
      let t := readRecord (.stack n) s
      if (t.stack n).state = .free then t else State.readFree fuel t

/-- R79: what the decision of the lane reads from the stack table. -/
def State.readForDecision (s : State) (l : Lane) : State := (s.readLaneStacks l).readFree 64

/-- R81: at a LANE_OFF decision, the lane's stack records having been read (R79), the job record of the OPEN stack's slot is
read, and the stack is sealed with JOB_END when its job is no longer the ACTIVE job of its slot; not while PFAIL is asserted
(R97). That job record is not read then: the model's choice (log entry 28). -/
def State.sealEndedJob (s : State) (l : Lane) : State :=
  if s.pfail then s
  else
    match s.openOf l with
    | none => s
    | some n =>
      let t := readRecord (.job (s.stack n).slot) s
      match t.openOf l with
      | none => t
      | some m => if jobEnded t (t.stack m) then t.seal m .jobEnd else t

/-- R83: why the lane's OPEN record refuses a label, or `none` when it takes it. A record that holds no last committed
serial (restored with nothing landed, R138) takes the label without the serial tests. R83 refuses at a foreseen gap count
that equals the gap limit; one above it (a job written again with a lower limit) is refused too: the model's choice (log
entry 27). -/
def offerRefusal (job : JobRecord) (slot : JobSlot) (serial : Option Nat) (r : StackRecord) : Option SealReason :=
  if r.slot ≠ slot ∨ r.jobId ≠ job.jobId then some .jobChange
  else if job.serialized then
    match r.serial, serial with
    | some sp, some k =>
      match sp.lastCommitted with
      | none => none
      | some a =>
        match serialDistance job.serialMode job.step a k with
        | none => some .serialBreak
        | some d =>
          if d = 0 ∨ 9999 < d then some .serialBreak
          else if 2 ≤ d ∧ job.gapLimit ≤ sp.foreseen then some .gapLimit
          else none
    | _, _ => none
  else none

/-- R85, R129: the serial part of a record after a commit. -/
def commitSerial (job : JobRecord) (serial : Option Nat) (sp : SerialPart) : SerialPart :=
  match serial with
  | none => sp
  | some k =>
    match sp.lastCommitted with
    | none => { sp with first := some k, lastCommitted := some k }
    | some a =>
      { sp with
          lastCommitted := some k
          foreseen :=
            match serialDistance job.serialMode job.step a k with
            | some d => if 2 ≤ d ∧ d ≤ 9999 then sp.foreseen + 1 else sp.foreseen
            | none => sp.foreseen }

/-- R85: the record after a commit. -/
def committedRecord (job : JobRecord) (serial : Option Nat) (r : StackRecord) : StackRecord :=
  { r with
      committed := r.committed + 1
      serial := if job.serialized then r.serial.map (commitSerial job serial) else r.serial }

/-- R120: the record opened for a label of job `job` in slot `j`. -/
def openedRecord (job : JobRecord) (j : JobSlot) (l : Lane) (serial : Option Nat) : StackRecord :=
  { StackRecord.zero .opened with
      lane := laneNumber l
      slot := j
      jobId := job.jobId
      ordinal := job.nextOrdinal
      target := job.target
      serial :=
        if job.serialized then
          some { first := serial, lastCommitted := serial, lastLanded := none, foreseen := 0, gaps := [] }
        else none }

/-- R104: the next stack ordinal follows 65,535 with 1. -/
def nextOrdinalAfter (o : BitVec 16) : BitVec 16 := if o = 0xFFFF then 1 else o + 1

/-- R85: the label is committed to record `n`: the row entry, the counts and serials of the record, the lane's run state,
and the seal with TARGET when the committed count reaches the target. -/
def State.commitLabel (s : State) (i : RingSlot) (l : Lane) (e : LaneEntry) (job : JobRecord) (n : StackNo) : State :=
  let r := committedRecord job e.serial (s.stack n)
  let t := (s.setEntry i l { e with disposition := .stack n, landing := .awaiting }).setStack n r
  let u := t.setRun l (match t.lanes[l].run with | .blocked _ => .active | x => x)
  if r.committed = r.target then u.seal n .target else u

/-- R84, line 14 of R80: no record can be had: the lane becomes BLOCKED and the label is wasted BLOCKED. -/
def State.blockLabel (s : State) (i : RingSlot) (row : RowNo) (l : Lane) (e : LaneEntry) (c : BlockedCause) : State :=
  (s.setRun l (.blocked c)).wasteLabel i row l e .blocked

/-- R84, R104, R120: FREE record `n` is opened for the label, the job's ordinal advances, and the label is committed. -/
def State.openAndCommit (s : State) (i : RingSlot) (l : Lane) (e : LaneEntry) (j : JobSlot) (n : StackNo) : State :=
  let job := s.job j
  let t := (s.setStack n (openedRecord job j l e.serial)).clearFlips (.stack n)
  (t.setJob j { job with nextOrdinal := nextOrdinalAfter job.nextOrdinal }).commitLabel i l e job n

/-- R84: the label needs a new stack record: the lowest-numbered FREE record, which the decision has read (R79), is opened
and the label committed, or the lane becomes BLOCKED. A record that the seal of R83 has just made FREE was read as the
lane's OPEN record. -/
def State.commitToNew (s : State) (i : RingSlot) (row : RowNo) (l : Lane) (e : LaneEntry) (j : JobSlot) : State :=
  match s.newRecordBlock l with
  | some c => s.blockLabel i row l e c
  | none =>
    match s.lowestFree with
    | none => s.blockLabel i row l e .noRecord
    | some n => s.openAndCommit i l e j n

/-- R83 to R85, R120: lines 14 and 15 of R80, the lane's stack records having been read (R79). The completion after the seal
of R83 can make a grant, and the grant can find the lane's own record damaged (R183), which makes the lane OFF; the label in
hand is committed or the lane set BLOCKED all the same: the model's choice (log entry 37). -/
def State.commitStage (s : State) (i : RingSlot) (row : RowNo) (l : Lane) (e : LaneEntry) (j : JobSlot) : State :=
  match s.openOf l with
  | none => s.commitToNew i row l e j
  | some n =>
    match offerRefusal (s.job j) j e.serial (s.stack n) with
    | none => s.commitLabel i l e (s.job j) n
    | some reason => (s.seal n reason).commitToNew i row l e j

/-- R79 to R82, R97: one lane of the decision of the row in slot `i`. The job record of the snapshot is read, the lines of R80
are judged, and then the stack records are read, on every line but SAMPLE (R82) and, while PFAIL is asserted, for a lane
that passes lines 1 to 12 (R97). A grant that follows damage found among them can find the lane's own record damaged (R183)
and make the lane OFF; the line judged stands all the same. That order is the model's choice (log entries 10 and 37). -/
def State.decideLane (i : RingSlot) (s : State) (l : Lane) : State :=
  match s.rowAt i with
  | none => s
  | some r =>
    let e := r.lanes[l]
    let t := match e.snapshot with
      | none => s
      | some j => readRecord (.job j) s
    if laneOffHolds t l e then ((t.readForDecision l).sealEndedJob l).wasteLabel i r.number l e .laneOff
    else
      match wasteLine t l r.flags e with
      | some w => (t.readForDecision l).wasteLabel i r.number l e w
      | none =>
        match e.snapshot with
        | none => t
        | some j =>
          if t.pfail then t.wasteLabel i r.number l e .blocked
          else if sampleMatches (t.job j) r.number then t.sampleLabel i r.number l e
          else (t.readForDecision l).commitStage i r.number l e j

/-! ## Condition counters (R167 to R169) -/

/-- R192: the bit of a disposition in a disposition mask. -/
def Disposition.maskBit : Disposition → Option Nat
  | .undecided => none
  | .stack _ => some 0
  | .sample => some 1
  | .waste w => some (w.code + 1)

/-- R167: a lane of the lane set has a disposition in the mask. -/
def counterMatches (c : CounterConfig) (r : RowRecord) (l : Lane) : Bool :=
  inLaneSet c.laneSet l && (r.lanes[l].disposition.maskBit).any (fun b => c.mask.getLsbD b)

/-- R167: what a row adds to the working value. -/
def counterAdds (c : CounterConfig) (r : RowRecord) : Nat :=
  let k := ((List.finRange 12).filter (counterMatches c r)).length
  match c.unit with
  | .label => k
  | .row => if k = 0 then 0 else 1

/-- One counter's state changed. -/
def State.setCounter (s : State) (c : CounterNo) (k : CounterState) : State :=
  { s with counters := vset s.counters c k }

/-- R169: the threshold is reached: COUNTER_LIMIT is raised, and the quality-stop latch set when the action is STOP. -/
def State.thresholdReached (s : State) (c : CounterNo) : State :=
  let k := s.counters[c]
  if s.counterOff c = false ∧ k.config.threshold ≠ 0 ∧ k.config.threshold ≤ k.published.toNat then
    let t := s.raise .counterLimit
    if k.config.action = .stop then { t with attention := { t.attention with qualityStop := true } } else t
  else s

/-- R168, R169: a WINDOW counter whose row count has reached the window length publishes and is tested. -/
def State.windowPublish (s : State) (c : CounterNo) : State :=
  let k := s.counters[c]
  if s.counterOff c = false ∧ k.config.mode = .window ∧ k.config.window ≤ k.rows then
    (s.setCounter c { k with published := k.working, working := 0, rows := 0 }).thresholdReached c
  else s

/-- R167 to R169: one counter evaluated on a decided row. -/
def State.evaluateCounter (r : RowRecord) (s : State) (c : CounterNo) : State :=
  if s.counterOff c then s
  else
    let k := s.counters[c]
    let w := satAdd k.working (counterAdds k.config r)
    match k.config.mode with
    | .window => (s.setCounter c { k with working := w, rows := k.rows + 1 }).windowPublish c
    | .accumulate =>
      let t := s.setCounter c { k with working := w, published := w, rows := 0 }
      if k.published.toNat < k.config.threshold then t.thresholdReached c else t

/-! ## The decision (R31, R78) -/

/-- R86: the gate setting of a disposition. -/
def Disposition.gate : Disposition → Gate
  | .stack _ => .stack
  | .sample => .sample
  | _ => .waste

/-- R86, R97: every lane's gate setting becomes its disposition; held at WASTE while PFAIL is asserted. -/
def State.setGates (s : State) (r : RowRecord) : State :=
  if s.pfail then s
  else { s with lanes := vtab (fun l => { s.lanes[l] with gate := r.lanes[l].disposition.gate }) }

/-- R78: what follows the twelve dispositions: the row is DECIDED, the gate lines are set, the counters evaluated and the
finished test made. -/
def State.closeDecision (s : State) (i : RingSlot) : State :=
  match s.rowAt i with
  | none => s
  | some r =>
    let row := { r with phase := .decided }
    let t := (s.setRow i row).setGates row
    ((List.finRange 4).foldl (State.evaluateCounter row) t).retireRows

/-- R30, R31, R78: the decision of the row in slot `i`, as one event. -/
def State.decideRow (s : State) (i : RingSlot) : State :=
  match s.rowAt i with
  | none => s
  | some r =>
    let t := if r.phase = .opened then s.missCut i r else s
    ((List.finRange 12).foldl (State.decideLane i) t).closeDecision i

/-- R3, R31: the oldest open row, not yet DECIDED, whose gate point the web has just reached (log entry 35). -/
def State.dueGate (s : State) : Option RingSlot :=
  s.findOpen (fun r =>
    (r.phase == .opened || r.phase == .cut) && s.reaches (gatePointOf s r))

/-- R31: the gate point reached is acted on, in SEEK, TRACKING or DRAINING. -/
def State.takeGatePoint (s : State) : State :=
  if s.modes.mode = .parked then s
  else
    match s.dueGate with
    | none => s
    | some i => s.decideRow i

/-! ## The commands -/

/-- GATE_POINT (R31, R78). -/
def execGatePoint (s : State) : Result := .next s.takeGatePoint

/-- WINDOW_PUBLISH (R168). -/
def execWindowPublish (c : CounterNo) (s : State) : Result := .next (s.windowPublish c)

/-- THRESHOLD_REACHED (R169). -/
def execThresholdReached (c : CounterNo) (s : State) : Result := .next (s.thresholdReached c)

/-- LANE_UNBLOCK (R89). -/
def execLaneUnblock (s : State) : Result := .next s.unblockLanes

end Sys2Proof.Machine
end

