-- ==== Sys2Proof/Machine/Landing.lean ====
section
/-! DEFINITION. The landing monitor (Chapter 5, sections 5.5 and 5.6) and the gap check (R130, R131): the commands POCKET,
LANDING_WINDOW_END, LANE_JAMMED, STACK_COMPLETE and HELD_PUSH. -/

namespace Sys2Proof.Machine

/-! ## Gaps (R130, R131) -/

/-- R112, R113: the serial `k` steps after serial `a`. -/
def serialAfter (mode : SerialMode) (step a k : Nat) : Nat := serialAt mode step a k

/-- R131: a gap of `len` serials from `start`, entered as entries of at most 9,999; an entry that meets a full list is not
added and the record receives GAPS_INCOMPLETE. Nine rounds suffice, since a list holds at most eight entries. -/
def enterGap (mode : SerialMode) (step : Nat) (cause : Cause) : Nat → Nat → Nat → List Gap × Bool → List Gap × Bool
  | 0, _, _, acc => acc
  | fuel + 1, start, len, acc =>
    if len = 0 then acc
    else if 8 ≤ acc.1.length then (acc.1, true)
    else
      enterGap mode step cause fuel (serialAfter mode step start 9999) (len - 9999)
        (acc.1 ++ [{ start := start, length := min len 9999, cause := cause }], acc.2)

/-- R130: the missing run before serial `k`: its start and length, or `none` when no gap is recorded. -/
def missingRun (mode : SerialMode) (step : Nat) (sp : SerialPart) (k : Nat) : Option (Nat × Nat) :=
  match sp.lastLanded with
  | none =>
    match sp.first with
    | none => none
    | some f =>
      match serialDistance mode step f k with
      | some d => if 1 ≤ d then some (f, d) else none
      | none => none
  | some a =>
    match serialDistance mode step a k with
    | some d => if 2 ≤ d then some (serialAfter mode step a 1, d - 1) else none
    | none => none

/-- R130: the record after the gap check with serial `k` and the lane's skip cause; the cause is RESUME when none is
held. -/
def gapCheck (mode : SerialMode) (step : Nat) (skip : Option Cause) (k : Nat) (r : StackRecord) : StackRecord :=
  match r.serial with
  | none => r
  | some sp =>
    match missingRun mode step sp k with
    | none => { r with serial := some { sp with lastLanded := some k } }
    | some run =>
      let g := enterGap mode step (skip.getD .resume) 9 run.1 run.2 (sp.gaps, r.flags.gapsIncomplete)
      { r with
          serial := some { sp with lastLanded := some k, gaps := g.1 }
          flags := { r.flags with gapsIncomplete := g.2 } }

/-- R118: the step and direction of a record's serials are those of the job its slot names; those of a job record that the
damage rewrite has made zero are a free value (log entry 6). -/
def strideOf (job : JobRecord) (free : Nat) : SerialMode × Nat :=
  if job.serialized then (job.serialMode, job.step)
  else (if (Config.lostStride free).2 then .down else .up, (Config.lostStride free).1 % 16 + 1)

/-! ## A credited landing (R93) -/

/-- R123: the record after a landing is counted on it. -/
def landedRecord (r : StackRecord) : StackRecord := { r with landed := min (r.landed + 1) 9999 }

/-- R93, steps 1 and 2: the landing counted on the stack record, with the gap check; nothing while PFAIL is asserted (R97)
or when the record is found damaged. While PFAIL is asserted the record is not read either: the model's choice (log
entry 28). -/
def State.creditStack (s : State) (l : Lane) (e : LaneEntry) (n : StackNo) : State :=
  if s.pfail then s
  else
    let t := readRecord (.stack n) s
    if (t.stack n).state = .quarantined .damaged then t
    else
      match (t.stack n).serial, e.serial with
      | some _, some k =>
        let u := readRecord (.job (t.stack n).slot) t
        let st := strideOf (u.job (u.stack n).slot) u.freeCount
        let v := u.setStack n (gapCheck st.1 st.2 u.lanes[l].skipCause k (landedRecord (u.stack n)))
        { v with freeCount := u.freeCount + 1 }
      | _, _ => t.setStack n (landedRecord (t.stack n))

/-- R87: the skip cause after a credited landing of row `row`: cleared when the row is later than the skip row, or no skip
row is held. -/
def LaneUnit.landed (u : LaneUnit) (row : RowNo) : LaneUnit :=
  { u with
      consecutiveLost := 0
      skipCause :=
        match u.skipRow with
        | none => none
        | some k => if posPast row k then none else u.skipCause
      skipRow :=
        match u.skipRow with
        | none => none
        | some k => if posPast row k then none else u.skipRow }

/-- R93: a pulse is credited to the label of lane `l` in the row of slot `i`, as one event in the order of that rule. -/
def State.creditLanding (s : State) (i : RingSlot) (r : RowRecord) (l : Lane) : State :=
  let e := r.lanes[l]
  let a := s.setEntry i l { e with landing := .landed }
  match e.disposition with
  | .stack n =>
    let b := a.creditStack l e n
    let c := b.setLane l (b.lanes[l].landed r.number)
    (c.completeTest n).retireRows
  | _ => (a.setLane l (a.lanes[l].landed r.number)).retireRows

/-! ## Strays (R94) -/

/-- The oldest open row in which lane `l` is AWAITING. -/
def State.oldestAwaiting (s : State) (l : Lane) : Option RingSlot :=
  s.findOpen (fun r => r.lanes[l].landing == .awaiting)

/-- R94: the record that a stray of the lane is counted against. -/
def State.strayTarget (s : State) (l : Lane) : Option StackNo :=
  match s.oldestAwaiting l with
  | some i =>
    (s.rowAt i).bind (fun r => match r.lanes[l].disposition with | .stack n => some n | _ => none)
  | none => s.openOf l

/-- R94, R123: the stray counted on a record, which receives SUSPECT; not on a QUARANTINED one. -/
def State.markStray (s : State) (n : StackNo) : State :=
  let t := readRecord (.stack n) s
  let r := t.stack n
  match r.state with
  | .quarantined _ => t
  | _ => t.setStack n { r with stray := satInc r.stray, flags := { r.flags with suspect := true } }

/-- R94: an unmatched pocket pulse. While PFAIL is asserted no record is marked (R97), and none is read: the model's choice
(log entry 28). -/
def State.strayLanding (s : State) (l : Lane) : State :=
  let t := s.setLane l { s.lanes[l] with stray := satInc s.lanes[l].stray }
  if t.pfail then t
  else
    match t.strayTarget l with
    | none => t
    | some n => t.markStray n

/-! ## Losses (R90, R95) -/

/-- R90: a running lane whose consecutive-lost count stands at or above the jam limit becomes JAMMED. -/
def State.jamTest (s : State) (l : Lane) : State :=
  match s.lanes[l].run with
  | .off => s
  | .jammed => s
  | _ => if s.work.jamLimit ≤ s.lanes[l].consecutiveLost.toNat then s.setRun l .jammed else s

/-- R123: the record after a loss is counted on it. -/
def lostRecord (r : StackRecord) : StackRecord := { r with lost := min (r.lost + 1) 9999 }

/-- R95, step 1: the loss counted on the stack record; nothing while PFAIL is asserted (R97) or when the record is found
damaged. While PFAIL is asserted the record is not read either: the model's choice (log entry 28). -/
def State.chargeLoss (s : State) (n : StackNo) : State :=
  if s.pfail then s
  else
    let t := readRecord (.stack n) s
    if (t.stack n).state = .quarantined .damaged then t else t.setStack n (lostRecord (t.stack n))

/-- R87, R95, steps 2 and 3: the lane's skip cause and consecutive-lost count at a loss. -/
def LaneUnit.lost (u : LaneUnit) (row : RowNo) : LaneUnit :=
  { u.skip .lost row with consecutiveLost := satInc u.consecutiveLost }

/-- R95: lane `l` of the row in slot `i` becomes LOST if it is AWAITING, with the five steps of that rule. -/
def State.loseLabel (i : RingSlot) (s : State) (l : Lane) : State :=
  match s.rowAt i with
  | none => s
  | some r =>
    let e := r.lanes[l]
    if e.landing = .awaiting then
      let a := s.setEntry i l { e with landing := .lost }
      match e.disposition with
      | .stack n =>
        let b := a.chargeLoss n
        ((b.setLane l (b.lanes[l].lost r.number)).jamTest l).completeTest n
      | _ => (a.setLane l (a.lanes[l].lost r.number)).jamTest l
    else s

/-- R3, R95: the oldest open row with a lane AWAITING whose landing window end the web has just passed (log entry 35). -/
def State.dueLanding (s : State) : Option RingSlot :=
  s.findOpen (fun r =>
    r.lanes.toList.any (fun e => e.landing == .awaiting) && s.passes (landingEndOf s r))

/-- R95: the landing window end passed is acted on, for every lane of the row and then the ring's finished test. -/
def State.takeLandingEnd (s : State) : State :=
  match s.dueLanding with
  | none => s
  | some i => ((List.finRange 12).foldl (State.loseLabel i) s).retireRows

/-- R92: the landing window of an AWAITING label of the lane contains `p`. -/
def State.landingWindowHas (s : State) (l : Lane) (p : Pos) (r : RowRecord) : Bool :=
  r.lanes[l].landing == .awaiting &&
    decide (posWithin p (posAdd (gatePointOf s r) s.work.lMin) (landingEndOf s r))

/-- R92: a pulse on a lane's POCKET line at the present position. -/
def State.takePocket (s : State) (l : Lane) : State :=
  if posBefore s.position.position s.position.highWater then
    { s with backLandings := satInc s.backLandings }
  else
    match s.findOpen (s.landingWindowHas l s.position.position) with
    | none => s.strayLanding l
    | some i =>
      match s.rowAt i with
      | none => s
      | some r => s.creditLanding i r l

/-! ## Completion (R126, R127) -/

/-- R126, R180: a SEALED record is read and tested for completion; not while PFAIL is asserted (R137). -/
def State.takeComplete (s : State) (n : StackNo) : State :=
  if s.pfail = false ∧ (s.stack n).state = .sealed then State.completeTest (readRecord (.stack n) s) n else s

/-! ## The commands -/

/-- POCKET (R92). -/
def execPocket (l : Lane) (s : State) : Result := .next (s.takePocket l)

/-- LANDING_WINDOW_END (R95). -/
def execLandingWindowEnd (s : State) : Result := .next s.takeLandingEnd

/-- LANE_JAMMED (R90). -/
def execLaneJammed (l : Lane) (s : State) : Result := .next (s.jamTest l)

/-- STACK_COMPLETE (R127). -/
def execStackComplete (n : StackNo) (s : State) : Result := .next (s.takeComplete n)

/-- HELD_PUSH (R128): the push is not made while PFAIL is asserted (R182), and the pushed record is offered to the arbiter
(R141). -/
def execHeldPush (l : Lane) (s : State) : Result := .next (if s.pfail then s else (s.pushHeld l).grant)

end Sys2Proof.Machine
end

