-- ==== Sys2Proof/Machine/Position.lean ====
section
/-! DEFINITION. The position unit (Chapter 1): marks, synthetic marks, the loss limit, the reverse event, splice zones and
expiries, with their commands; and the count of the encoder (R1, R3, R5). -/

namespace Sys2Proof.Machine

/-! ## Marks (R4, R10, R11, R14) -/

/-- The position unit changed. -/
def State.setPosition (s : State) (u : PositionUnit) : State := { s with position := u }

/-- What becomes of a mark (R20: the checks in the order of that rule). -/
inductive MarkFate
  | idle | back | early | window | acquisition
  deriving DecidableEq, Repr

/-- R11: the expected window of X contains `p`. -/
def inMarkWindow (s : State) (x p : Pos) : Bool :=
  decide (posWithin p (posAdd x (-(s.work.wMark : Int))) (posAdd x s.work.wMark))

/-- R14: the acquisition test against the spacing reference. -/
def spacingAllows (s : State) (p : Pos) : Bool :=
  match s.position.spacing with
  | none => true
  | some ref => decide ((s.work.pNom : Int) - s.work.wMark ≤ posDiff p ref)

/-- R10, R4, R11, R14: the fate of a mark at the present position. -/
def State.markFate (s : State) : MarkFate :=
  if s.modes.mode = .parked ∨ s.modes.mode = .draining then .idle
  else if posBefore s.position.position s.position.highWater then .back
  else
    match s.position.expectation with
    | some x => if inMarkWindow s x s.position.position then .window else .early
    | none => if spacingAllows s s.position.position then .acquisition else .early

/-- R11, R14: a mark at `p` is accepted: the count of synthetic rows cleared, X one repeat on, and the row opened. -/
def State.acceptMark (s : State) (how : Opening) (p : Pos) : State :=
  (s.setPosition { s.position with
      consecutiveSynthetic := 0, expectation := some (posAdd p s.work.pNom) }).openRow how p

/-- R10, R4, R11, R14: a pulse on MARK at the present position. -/
def State.takeMark (s : State) : State :=
  match s.markFate with
  | .idle => s.setPosition { s.position with idleMarks := satInc s.position.idleMarks }
  | .back => s.setPosition { s.position with backMarks := satInc s.position.backMarks }
  | .early => s.setPosition { s.position with earlyMarks := satInc s.position.earlyMarks }
  | .window => s.acceptMark .window s.position.position
  | .acquisition => s.acceptMark .acquisition s.position.position

/-! ## Synthetic marks and the loss of sync (R12, R13) -/

/-- R5, R13: a fall: TRACKING becomes SEEK with the settle count at 0 and TRACKING_LOST raised when `always` or when the
mode was TRACKING; the settle count of SEEK starts again from 0. -/
def State.fall (always : Bool) (s : State) : State :=
  let t := s.setSettle 0
  let u := if s.modes.mode = .tracking then { t with modes := { t.modes with mode := .seek } } else t
  if always ∨ s.modes.mode = .tracking then u.raise .trackingLost else u

/-- The mark expectation becomes UNSYNCED (R9). -/
def State.loseSync (s : State) : State := s.setPosition { s.position with expectation := none }

/-- R13: the count of synthetic rows has reached the loss limit while SYNCED, in SEEK or TRACKING. -/
def State.lossReached (s : State) : Bool :=
  s.position.expectation.isSome && s.work.lossLimit ≤ s.position.consecutiveSynthetic.toNat &&
    (s.modes.mode == .seek || s.modes.mode == .tracking)

/-- R13: the loss limit is acted on. -/
def State.lossTest (s : State) : State := if s.lossReached then s.loseSync.fall false else s

/-- R3, R12: X, when the web has just passed its synthetic-mark point X + W_mark, in SEEK or TRACKING. -/
def State.dueSynthetic (s : State) : Option Pos :=
  if s.modes.mode = .seek ∨ s.modes.mode = .tracking then
    match s.position.expectation with
    | some x => if s.passes (posAdd x s.work.wMark) then some x else none
    | none => none
  else none

/-- R12, R13: the synthetic row is opened at X, X advances, and the loss limit is tested. -/
def State.takeSynthetic (s : State) : State :=
  match s.dueSynthetic with
  | none => s
  | some x =>
    ((s.setPosition { s.position with
        expectation := some (posAdd x s.work.pNom)
        consecutiveSynthetic := satInc s.position.consecutiveSynthetic
        syntheticRows := satInc s.position.syntheticRows }).openRow .synthetic x).lossTest

/-! ## The reverse event (R5) -/

/-- R5: the three conditions of the reverse event. -/
def State.reverseHolds (s : State) : Bool :=
  s.position.reverseArm && (s.modes.mode == .seek || s.modes.mode == .tracking) &&
    decide ((s.work.rRev : Int) < posDiff s.position.highWater s.position.position)

/-- R5: the row carries REVERSE. -/
def RowRecord.flagReverse (r : RowRecord) : RowRecord := { r with flags := { r.flags with reverse := true } }

/-- R5: the check after the last count found the conditions and the event is still to be taken (log entry 3). -/
def State.dueReverse (s : State) : Bool :=
  s.position.reverseDue && (s.modes.mode == .seek || s.modes.mode == .tracking)

/-- R5: the reverse event. -/
def State.takeReverse (s : State) : State :=
  if s.dueReverse then
    ((s.setPosition { s.position with
        reverseArm := false
        reverseDue := false
        reverses := satInc s.position.reverses
        expectation := none }).mapUndecided RowRecord.flagReverse).fall true
  else s

/-! ## Splice zones (R6 to R8) and the spacing reference (R15) -/

/-- R6: the span of a splice seen at `t`. -/
def spliceSpan (s : State) (t : Pos) : Pos × Pos :=
  let c := posAdd t s.work.upstream
  (posAdd c (-(s.work.lead : Int)), posAdd c s.work.trail)

/-- R6: a zone widened to cover a new span: the earlier start and the later end. -/
def widenZone (zone span : Pos × Pos) : Pos × Pos :=
  (if posBefore span.1 zone.1 then span.1 else zone.1, if posPast span.2 zone.2 then span.2 else zone.2)

/-- R7: the row carries SPLICE when its repeat overlaps the zone. -/
def flagSplice (s : State) (zone : Pos × Pos) (r : RowRecord) : RowRecord :=
  if overlapsZone s r.mark zone then { r with flags := { r.flags with splice := true } } else r

/-- R6: the zone after a splice at the present position. -/
def State.zoneAfterSplice (s : State) : Pos × Pos :=
  match s.position.zone with
  | none => spliceSpan s s.position.position
  | some z => widenZone z (spliceSpan s s.position.position)

/-- R6, R7: a pulse on SPLICE at the present position, in every line mode. -/
def State.takeSplice (s : State) : State :=
  (s.setPosition { s.position with
      splices := satInc s.position.splices
      zone := some s.zoneAfterSplice }).mapUndecided (flagSplice s s.zoneAfterSplice)

/-- R8: the web has just reached the zone's end plus 2^30. -/
def State.dueZone (s : State) : Bool :=
  s.position.zone.any (fun z => s.reaches (posAdd z.2 expiryDistance))

/-- R8: the splice zone is dropped at its expiry. -/
def State.takeZoneExpiry (s : State) : State :=
  if s.dueZone then s.setPosition { s.position with zone := none } else s

/-- R15: the web has just reached the spacing reference plus 2^30. -/
def State.dueSpacing (s : State) : Bool :=
  s.position.spacing.any (fun m => s.reaches (posAdd m expiryDistance))

/-- R15: the spacing reference is cleared at its expiry. -/
def State.takeSpacingExpiry (s : State) : State :=
  if s.dueSpacing then s.setPosition { s.position with spacing := none } else s

/-! ## Counting (R1, R3, R5) -/

/-- R1, R3: the position unit after a forward count. -/
def PositionUnit.countUp (u : PositionUnit) : PositionUnit :=
  if posPast (u.position + 1) u.highWater then
    { u with position := u.position + 1, highWater := u.position + 1, reverseArm := true, advanced := true }
  else { u with position := u.position + 1, advanced := false }

/-- R1, R3: the position unit after a backward count. -/
def PositionUnit.countDown (u : PositionUnit) : PositionUnit := { u with position := u.position - 1, advanced := false }

/-- R5: the check made after each count. -/
def State.reverseCheck (s : State) : State :=
  s.setPosition { s.position with reverseDue := s.reverseHolds }

/-- R1: one transition of the encoder pair. -/
def State.countEncoder (e : EncoderStep) (s : State) : State :=
  match e with
  | .forward => (s.setPosition s.position.countUp).reverseCheck
  | .backward => (s.setPosition s.position.countDown).reverseCheck
  | .invalid => s.setPosition { s.position with encoderErrors := satInc s.position.encoderErrors }

/-! ## The commands -/

/-- MARK (R11). -/
def execMark (s : State) : Result := .next s.takeMark

/-- SYNTHETIC_MARK (R12). -/
def execSyntheticMark (s : State) : Result := .next s.takeSynthetic

/-- LOSS_LIMIT (R13). -/
def execLossLimit (s : State) : Result := .next s.lossTest

/-- REVERSE_EVENT (R5). -/
def execReverseEvent (s : State) : Result := .next s.takeReverse

/-- SPLICE (R6). -/
def execSplice (s : State) : Result := .next s.takeSplice

/-- SPLICE_ZONE_EXPIRY (R8). -/
def execSpliceZoneExpiry (s : State) : Result := .next s.takeZoneExpiry

/-- SPACING_REFERENCE_EXPIRY (R15). -/
def execSpacingReferenceExpiry (s : State) : Result := .next s.takeSpacingExpiry

end Sys2Proof.Machine
end

