-- ==== Sys2Proof/Machine/Thresholds.lean ====
section
/-! DEFINITION. The thresholds of the web position (R3) taken together, and the command ENCODER_TRANSITION (R1). A
threshold that nothing has taken when the encoder counts next, or when no command waits, is taken there (log entries 2
and 3). -/

namespace Sys2Proof.Machine

/-- The events that a count makes due, each acted on by its own block (R3, R5). -/
inductive DueEvent
  | synthetic | zoneExpiry | spacingExpiry | reverse | dieWindowEnd | gatePoint | landingEnd
  deriving DecidableEq, Repr

/-- Every kind of event that a count can make due. -/
def allDue : List DueEvent :=
  [.synthetic, .zoneExpiry, .spacingExpiry, .reverse, .dieWindowEnd, .gatePoint, .landingEnd]

/-- Whether an event is due at the present count. -/
def DueEvent.due (s : State) : DueEvent → Bool
  | .synthetic => s.dueSynthetic.isSome
  | .zoneExpiry => s.dueZone
  | .spacingExpiry => s.dueSpacing
  | .reverse => s.dueReverse
  | .dieWindowEnd => s.dueDieWindow.isSome
  | .gatePoint => s.modes.mode != .parked && s.dueGate.isSome
  | .landingEnd => s.dueLanding.isSome

/-- An event acted on. -/
def DueEvent.take (s : State) : DueEvent → State
  | .synthetic => s.takeSynthetic
  | .zoneExpiry => s.takeZoneExpiry
  | .spacingExpiry => s.takeSpacingExpiry
  | .reverse => s.takeReverse
  | .dieWindowEnd => s.takeDieWindowEnd
  | .gatePoint => s.takeGatePoint
  | .landingEnd => s.takeLandingEnd

/-- The events due at the present count. -/
def State.dueEvents (s : State) : List DueEvent := allDue.filter (DueEvent.due s)

/-- One event due is acted on; when several are, a free value says which (R3: "independently, each by its owner"; log
entry 3). -/
def State.takeOneDue (s : State) : State :=
  match s.dueEvents with
  | [] => s
  | [e] => e.take s
  | e :: es =>
    ((e :: es).getD (Config.orderChoice s.freeCount % (e :: es).length) e).take { s with freeCount := s.freeCount + 1 }

/-- Events due are acted on until none is left; the fuel bounds them. -/
def settleFuel : Nat → State → State
  | 0, s => s
  | fuel + 1, s => if s.dueEvents.isEmpty then s else settleFuel fuel s.takeOneDue

/-- Every event due at the present count is acted on. One count makes at most one event due for each of the position unit's
four, and three for each of the 128 slots of the ring, so 512 rounds leave none. -/
def State.settle (s : State) : State := settleFuel 512 s

/-- ENCODER_TRANSITION (R1). -/
def execEncoderTransition (e : EncoderStep) (s : State) : Result := .next (s.settle.countEncoder e)

end Sys2Proof.Machine
end

