-- ==== Sys2Proof/Machine/Verdict.lean ====
section
/-! DEFINITION. The verdict receiver (Chapter 3): framing (R43, R44), the rank merge (R46 to R48), late and unknown messages
(R49 to R51), and the commands VERDICT_CHARACTER, IDLE_GAP, ROW_REJECT (R54, R55) and ROW_READ (R37 to R39). -/

namespace Sys2Proof.Machine

/-! ## Framing -/

/-- The verdict receiver changed. -/
def State.setVerdict (s : State) (v : VerdictReceiver) : State := { s with verdict := v }

/-- R43: a character joins the candidate; `none` is a character with a framing error. -/
def VerdictReceiver.join (v : VerdictReceiver) (c : Option Byte) : VerdictReceiver :=
  { v with
      count := satInc v.count
      kept := if v.kept.length < 6 then v.kept ++ [c] else v.kept
      spoiled := v.spoiled || c.isNone }

/-- R43: the partial message emptied and the receiver in a given state. -/
def VerdictReceiver.empty (v : VerdictReceiver) (st : ReceiverState) : VerdictReceiver :=
  { v with state := st, kept := [], count := 0, spoiled := false }

/-- R43: a character received on VRX. -/
def State.takeCharacter (c : Option Byte) (s : State) : State :=
  match s.verdict.state with
  | .hunt => s
  | .idle => s.setVerdict ((s.verdict.empty .receiving).join c)
  | .receiving => s.setVerdict (s.verdict.join c)

/-! ## Messages -/

/-- R46, R48: one lane's camera verdict after the rank merge. -/
def LaneEntry.mergeCode (e : LaneEntry) (c : BitVec 2) : LaneEntry :=
  { e with camera := e.camera.merge (Camera.ofCode c) }

/-- R48: the twelve lane codes merged into a row. -/
def RowRecord.mergeCodes (r : RowRecord) (codes : List Byte) : RowRecord :=
  { r with lanes := vtab (fun l => r.lanes[l].mergeCode (laneCode codes l)) }

/-- R50: the states in which a late reject marks a record. -/
def StackState.markable : StackState → Bool
  | .free => false
  | .quarantined .damaged => false
  | _ => true

/-- R50: a record marked by a late reject. -/
def StackRecord.lateMark (r : StackRecord) : StackRecord :=
  { r with flags := { r.flags with lateReject := true }, lateRejects := satInc r.lateRejects }

/-- R49, R50, R58: one lane of a late message: a reject code on a STACK lane marks the stack the entry names. While PFAIL is
asserted none is marked, and the record is not read: the model's choice (log entry 28). With PFAIL negated the record is read
for the marking before its state and its lane are tested, so a record that is then not marked has been read too: the model's
choice (log entry 36). -/
def State.lateLane (r : RowRecord) (codes : List Byte) (s : State) (l : Lane) : State :=
  match r.lanes[l].disposition with
  | .stack n =>
    if s.pfail = false ∧ 2 ≤ (laneCode codes l).toNat then
      let t := readRecord (.stack n) s
      if (t.stack n).state.markable = true ∧ (t.stack n).lane = laneNumber l then
        t.setStack n (t.stack n).lateMark
      else t
    else s
  | _ => s

/-- R48: a message merged into the undecided row in slot `i`. -/
def State.mergeMessage (s : State) (i : RingSlot) (r : RowRecord) (codes : List Byte) : State :=
  (s.setVerdict { s.verdict with merged := satInc s.verdict.merged }).setRow i (r.mergeCodes codes)

/-- R49: a late message for the decided row `r`. -/
def State.lateMessage (s : State) (r : RowRecord) (codes : List Byte) : State :=
  (List.finRange 12).foldl (State.lateLane r codes)
    ((s.setVerdict { s.verdict with late := satInc s.verdict.late }).raise .verdictFault)

/-- R51: a message whose tag resolves to a retired row or to no row. -/
def State.unknownMessage (s : State) : State :=
  (s.setVerdict { s.verdict with unknown := satInc s.verdict.unknown }).raise .verdictFault

/-- R47: a taken message, resolved by its tag. -/
def State.takeMessage (s : State) (tag : Byte) (codes : List Byte) : State :=
  match s.resolveTag tag with
  | .openRow i r => if r.phase = .decided then s.lateMessage r codes else s.mergeMessage i r codes
  | .retiredRow _ _ => s.unknownMessage
  | .noRow => s.unknownMessage

/-- R44: a candidate that is not accepted. -/
def State.malformedMessage (s : State) : State :=
  (s.setVerdict { s.verdict with malformed := satInc s.verdict.malformed }).raise .verdictFault

/-- R44, R45: the candidate judged; the partial message is emptied either way. -/
def State.judge (s : State) : State :=
  let t := s.setVerdict (s.verdict.empty .idle)
  match acceptedMessage s.verdict.count s.verdict.spoiled s.verdict.kept with
  | some (tag, codes) => t.takeMessage tag codes
  | none => t.malformedMessage

/-- R43: an idle gap completes. -/
def State.takeIdleGap (s : State) : State :=
  match s.verdict.state with
  | .hunt => s.setVerdict { s.verdict with state := .idle }
  | .idle => s
  | .receiving => s.judge

/-! ## ROW REJECT and ROW READ -/

/-- R55: the manual reject flags of the lanes of a set, set in a row. -/
def RowRecord.reject (r : RowRecord) (lanes : BitVec 16) : RowRecord :=
  { r with lanes := vtab (fun l => { r.lanes[l] with manual := r.lanes[l].manual || inLaneSet lanes l }) }

/-- R55: the response of a ROW REJECT: the row number and the set of all manual reject flags. -/
def rejectPayload (r : RowRecord) : List Byte :=
  beBytes 4 r.number.toNat ++ beBytes 2 (laneSetOf (fun l => r.lanes[l].manual))

/-- R54, R55: ROW REJECT by its own rule. -/
def rowRejectRule (tag : Byte) (lanes : BitVec 16) (s : State) : State × Status × List Byte :=
  if lanes = 0 then refuse s .errArg
  else
    match s.resolveTag tag with
    | .openRow i r =>
      if r.phase = .decided then refuse s .errState
      else reply (s.setRow i (r.reject lanes)) (rejectPayload (r.reject lanes))
    | .retiredRow _ _ => refuse s .errArg
    | .noRow => refuse s .errArg

/-- R37 to R39: the part of a row that ROW READ answers with. -/
def rowPart (part : Byte) (r : RowRecord) : List Byte := if part = 0 then rowPart0 r else rowPart1 r

/-- R37: ROW READ by its own rule. -/
def rowReadRule (tag part : Byte) (s : State) : State × Status × List Byte :=
  if part = 0 ∨ part = 1 then
    match s.resolveTag tag with
    | .openRow _ r => reply s (rowPart part r)
    | .retiredRow _ r => reply s (rowPart part r)
    | .noRow => refuse s .errArg
  else refuse s .errArg

/-! ## The commands -/

/-- VERDICT_CHARACTER (R43). -/
def execVerdictCharacter (c : Option Byte) (s : State) : Result := .next (s.takeCharacter c)

/-- IDLE_GAP (R43 to R51). -/
def execIdleGap (s : State) : Result := .next s.takeIdleGap

/-- ROW_REJECT (R54, R55). -/
def execRowReject (tag : Byte) (lanes : BitVec 16) (s : State) : Result :=
  .next ((s.framed 3).request (setForm lanes) (rowRejectRule tag lanes))

/-- ROW_READ (R37). -/
def execRowRead (tag part : Byte) (s : State) : Result := .next ((s.framed 2).request true (rowReadRule tag part))

end Sys2Proof.Machine
end

