-- ==== Sys2Proof/Machine/Shuttle.lean ====
section
/-! DEFINITION. Transfers and the delivery queue (Chapter 8), and the requests that read and retire stacks: the commands
SHUTTLE_GRANT, DONE, FAULT, TRANSFER_TIMEOUT, TAKEN, SHUTTLE_CLEAR, STACK_RETIRE, STACK_RETIRE_ALL and STACK_LIST. -/

namespace Sys2Proof.Machine

/-- The shuttle state changed. -/
def State.setShuttle (s : State) (st : ShuttleState) : State := { s with shuttle := { s.shuttle with state := st } }

/-- The state of a stack record changed, its other fields kept. -/
def State.setStackState (s : State) (n : StackNo) (st : StackState) : State :=
  s.setStack n { s.stack n with state := st }

/-! ## The end of a transfer (R145 to R147, R156) -/

/-- R145, step 2: the stack in transfer joins the tail of the queue as DELIVERED with the next delivery sequence, or as a
void entry when its record is damaged. -/
def State.appendDelivered (s : State) (n : StackNo) : State :=
  if (s.stack n).state = .transfer then
    { (s.setStack n { s.stack n with state := .delivered, deliverySeq := some s.queue.nextSeq }) with
        queue := { entries := s.queue.entries ++ [some n], nextSeq := s.queue.nextSeq + 1 } }
  else { s with queue := { s.queue with entries := s.queue.entries ++ [none] } }

/-- R145, R156: DONE while MOVING. While PFAIL is asserted the record is not read: the model's choice (log entry 28). -/
def State.endTransfer (s : State) (n : StackNo) : State :=
  if s.pfail then s.setShuttle .idle
  else (((readRecord (.stack n) s).appendDelivered n).setShuttle .idle).grant

/-- R145, R147: a pulse on DONE. -/
def State.takeDone (s : State) : State :=
  match s.shuttle.state with
  | .moving _ n _ => s.endTransfer n
  | .faulted => { s with shuttle := { s.shuttle with lateDones := satInc s.shuttle.lateDones } }
  | .idle => { s with shuttle := { s.shuttle with strayHandshakes := satInc s.shuttle.strayHandshakes } }

/-- R146, step 2: the stack in transfer becomes QUARANTINED with cause TRANSFER, unless its record is damaged. One that is
neither in TRANSFER nor damaged stays as it is: the model's choice (log entry 16). -/
def State.quarantineTransfer (s : State) (n : StackNo) : State :=
  if (s.stack n).state = .transfer then s.setStackState n (.quarantined .transfer) else s

/-- R146, R156: the transfer ends in failure; the caller has counted it. While PFAIL is asserted the record is not read: the
model's choice (log entry 28). -/
def State.failTransfer (s : State) (n : StackNo) : State :=
  if s.pfail then s.setShuttle .faulted
  else (((readRecord (.stack n) s).quarantineTransfer n).setShuttle .faulted).unblockLanes

/-- R146, R147: a pulse on FAULT. -/
def State.takeFault (s : State) : State :=
  match s.shuttle.state with
  | .moving _ n _ =>
    State.failTransfer { s with shuttle := { s.shuttle with faults := satInc s.shuttle.faults } } n
  | _ => { s with shuttle := { s.shuttle with strayHandshakes := satInc s.shuttle.strayHandshakes } }

/-- R146: the transfer timer expires; outside MOVING there is no timer. -/
def State.takeTimeout (s : State) : State :=
  match s.shuttle.state with
  | .moving _ n _ =>
    State.failTransfer { s with shuttle := { s.shuttle with timeouts := satInc s.shuttle.timeouts } } n
  | _ => s

/-! ## Leaving the conveyor (R152 to R154) -/

/-- The head entry leaves the queue. -/
def State.dropHead (s : State) : State := { s with queue := { s.queue with entries := s.queue.entries.tail } }

/-- R121, R180: a record becomes FREE, its other fields kept, and the lane table is told. The words that the write stores get
fresh check bits, also in a record whose damage mark kept its read from correcting them (log entry 38). -/
def State.freeStack (s : State) (n : StackNo) : State :=
  ((s.setStack n (s.stack n).freed).clearWords (.stack n) Config.freedWord).unblockLanes

/-- R152: a DELIVERED record becomes FREE; one found damaged stays QUARANTINED. -/
def State.freeDelivered (s : State) (n : StackNo) : State :=
  if (s.stack n).state = .delivered then s.freeStack n else s

/-- R152: an empty queue at a take. -/
def State.strayTake (s : State) : State :=
  { s with shuttle := { s.shuttle with strayTakes := satInc s.shuttle.strayTakes } }.raise .strayTake

/-- R152, R156: a pulse on TAKEN. While PFAIL is asserted the record is not read: the model's choice (log entry 28). -/
def State.takeTaken (s : State) : State :=
  match s.queue.entries with
  | [] => s.strayTake
  | none :: _ => s.dropHead.grant
  | some n :: _ =>
    if s.pfail then { s with shuttle := { s.shuttle with powerFailTakes := satInc s.shuttle.powerFailTakes } }
    else ((readRecord (.stack n) s).dropHead.freeDelivered n).grant

/-- R153: a lane entry of an open row that is AWAITING names the record. -/
def State.awaitedStack (s : State) (n : StackNo) : Bool :=
  s.openSlots.any (fun i => (s.rowAt i).any (fun r =>
    r.lanes.toList.any (fun e => e.landing == .awaiting && e.disposition == .stack n)))

/-- R153: the record is the stack in transfer. -/
def State.inTransferStack (s : State) (n : StackNo) : Bool :=
  match s.shuttle.state with
  | .moving _ m _ => m == n
  | _ => false

/-- R153: a DELIVERED record named by STACK RETIRE. -/
def retireDelivered (n : StackNo) (s : State) : State × Status × List Byte :=
  if s.queue.entries.head? = some (some n) then
    let t := readRecord (.stack n) s
    if (t.stack n).state = .delivered then
      reply (t.dropHead.freeStack n).grant (stackSummary n (t.stack n))
    else refuse t .errDamaged
  else refuse s .errNotHead

/-- R153: a QUARANTINED record named by STACK RETIRE. -/
def retireQuarantined (n : StackNo) (s : State) : State × Status × List Byte :=
  if s.inTransferStack n = true ∨ s.awaitedStack n = true then refuse s .errState
  else
    let t := readRecord (.stack n) s
    reply (t.freeStack n).grant (stackSummary n (t.stack n))

/-- R153: STACK RETIRE with the ALL option clear, by its own rule. -/
def stackRetireRule (stack : Byte) (s : State) : State × Status × List Byte :=
  match indexArg 64 stack with
  | none => refuse s .errArg
  | some n =>
    match (s.stack n).state with
    | .delivered => retireDelivered n s
    | .quarantined _ => retireQuarantined n s
    | _ => refuse s .errState

/-- R154: one entry of the queue retired: the state, the records freed and the entries dropped without one. -/
def retireEntry (acc : State × Nat × Nat) (e : Option StackNo) : State × Nat × Nat :=
  match e with
  | none => (acc.1, acc.2.1, acc.2.2 + 1)
  | some n =>
    let t := readRecord (.stack n) acc.1
    if (t.stack n).state = .delivered then (t.freeStack n, acc.2.1 + 1, acc.2.2) else (t, acc.2.1, acc.2.2 + 1)

/-- R154: STACK RETIRE with the ALL option set, by its own rule. -/
def stackRetireAllRule (s : State) : State × Status × List Byte :=
  let r := s.queue.entries.foldl retireEntry (s, 0, 0)
  reply (State.grant { r.1 with queue := { r.1.queue with entries := [] } }) [byteOf r.2.1, byteOf r.2.2]

/-! ## STACK LIST (R195) -/

/-- R195: the list of a selector; `none` stands for a void queue entry. -/
def stackListOf (s : State) : Nat → Option (List (Option StackNo))
  | 0 => some s.queue.entries
  | 1 => some (((List.finRange 64).filter (fun n => (s.stack n).state != .free)).map some)
  | 2 => some (((List.finRange 64).filter (fun n => (s.stack n).state.code == 7)).map some)
  | _ => none

/-- R195: the summary of one entry; under QUEUE a record found damaged is returned as a void entry. -/
def listSummary (s : State) (queue : Bool) : Option StackNo → List Byte
  | none => voidSummary
  | some n => if queue && (s.stack n).state == .quarantined .damaged then voidSummary else stackSummary n (s.stack n)

/-- R195: STACK LIST by its own rule: the records returned are read, then the response is built. -/
def stackListRule (selector start : Byte) (s : State) : State × Status × List Byte :=
  match stackListOf s selector.toNat with
  | none => refuse s .errArg
  | some entries =>
    if 63 < start.toNat then refuse s .errArg
    else
      let rest := entries.drop start.toNat
      let shown := rest.take 3
      let t := readAll readRecord ((shown.filterMap id).map .stack) s
      reply t ([byteOf shown.length, flagByte (decide (3 < rest.length))] ++
        shown.flatMap (listSummary t (selector == 0)))

/-! ## SHUTTLE CLEAR (R148) -/

/-- R148, R193: the lane and stack granted, 0 and 0xFF when no grant was made. -/
def grantPayload (s : State) : List Byte :=
  match s.shuttle.state with
  | .moving l n _ => [byteOf (laneNumber l), byteOf n.val]
  | _ => [0, 0xFF]

/-- R148: SHUTTLE CLEAR by its own rule. -/
def shuttleClearRule (s : State) : State × Status × List Byte :=
  if s.shuttle.state = .faulted then
    reply (s.setShuttle .idle).grant (grantPayload (s.setShuttle .idle).grant)
  else refuse s .errState

/-! ## The commands -/

/-- SHUTTLE_GRANT (R141, R144). -/
def execShuttleGrant (s : State) : Result := .next s.grant

/-- DONE (R145, R147). -/
def execDone (s : State) : Result := .next s.takeDone

/-- FAULT (R146, R147). -/
def execFault (s : State) : Result := .next s.takeFault

/-- TRANSFER_TIMEOUT (R146). -/
def execTransferTimeout (s : State) : Result := .next s.takeTimeout

/-- TAKEN (R152). -/
def execTaken (s : State) : Result := .next s.takeTaken

/-- STACK_RETIRE (R153). -/
def execStackRetire (stack : Byte) (s : State) : Result := .next ((s.framed 2).request true (stackRetireRule stack))

/-- STACK_RETIRE_ALL (R154): the stack number carried is not checked. -/
def execStackRetireAll (_stack : Byte) (s : State) : Result := .next ((s.framed 2).request true stackRetireAllRule)

/-- STACK_LIST (R195). -/
def execStackList (selector start : Byte) (s : State) : Result :=
  .next ((s.framed 2).request true (stackListRule selector start))

/-- SHUTTLE_CLEAR (R148). -/
def execShuttleClear (s : State) : Result := .next ((s.framed 0).request true shuttleClearRule)

end Sys2Proof.Machine
end

