-- ==== Sys2Proof/Machine/Modes.lean ====
section
/-! DEFINITION. Line modes, counters and attention as requests (Chapter 9, R194): the commands STATUS, ATTENTION_MASK,
MODE_RUN, MODE_PARK, COUNTER_WRITE and COUNTER_READ. -/

namespace Sys2Proof.Machine

/-! ## STATUS (R175, R194) -/

/-- R175: what a STATUS clears after its response is built. -/
def State.statusClear (s : State) (mask : BitVec 16) (quality : Bool) : State :=
  { s with attention := { s.attention with
      latched := s.attention.latched &&& ~~~mask
      qualityStop := s.attention.qualityStop && !quality } }

/-- R194: the 7-byte header; `after` is the state after the clear. -/
def statusHeader (s after : State) (page : Byte) : List Byte :=
  beBytes 2 s.pendingSet.toNat ++ beBytes 2 s.attention.enabled.toNat ++
  [ byteOf (s.modes.mode.code + 4 * bitsOf [s.modes.target == .run, s.pfail, after.stopReq, s.slowReq,
      s.attention.qualityStop, after.attention.qualityStop]),
    byteOf (bitsOf after.stopReasons), page ]

/-- R194: page 0 from byte 7: the position unit, the ring and the register unit (R21, R40, R75). -/
def statusPage0 (s : State) : List Byte :=
  beBytes 4 s.position.position.toNat ++ beBytes 4 s.position.highWater.toNat ++
  [byteOf (bitsOf [s.position.expectation.isSome, s.position.zone.isSome, decide (s.ring.openCount ≠ 0)])] ++
  beBytes 4 (s.position.expectation.getD 0).toNat ++ [byteOf s.position.consecutiveSynthetic.toNat] ++
  beBytes 4 (s.position.zone.getD (0, 0)).1.toNat ++ beBytes 4 (s.position.zone.getD (0, 0)).2.toNat ++
  beBytes 4 s.ring.next.toNat ++ [byteOf s.ring.openCount] ++
  beBytes 4 (if s.ring.openCount = 0 then 0 else s.oldestNumber.toNat) ++ be32s s.register.f16 ++
  be16s s.register.trim ++ [byteOf s.register.settle] ++ be16s s.work.oCut

/-- R194: the twenty-three counts of page 1 in their order. -/
def statusCounts (s : State) : List Count :=
  [ s.position.encoderErrors, s.position.earlyMarks, s.position.backMarks, s.position.idleMarks,
    s.position.syntheticRows, s.position.reverses, s.position.splices,
    s.verdict.merged, s.verdict.malformed, s.verdict.late, s.verdict.unknown,
    s.register.strayIndex, s.register.backIndex, s.register.missedCuts, s.register.outliers, s.register.overruns,
    s.backLandings,
    s.shuttle.faults, s.shuttle.timeouts, s.shuttle.lateDones, s.shuttle.strayHandshakes, s.shuttle.strayTakes,
    s.shuttle.powerFailTakes ]

/-- R194: page 1 from byte 7. -/
def statusPage1 (s : State) : List Byte := (statusCounts s).flatMap (fun c => beBytes 2 c.toNat)

/-- R157, R194: the lane and the stack in transfer, 0 and 0xFF when absent. -/
def transferBytes : ShuttleState → List Byte
  | .moving l n _ => [byteOf (laneNumber l), byteOf n.val]
  | _ => [0, 0xFF]

/-- R194: the head of the queue: a stack number, 0xFE for a void entry, 0xFF for none. -/
def headByte : List (Option StackNo) → Byte
  | [] => 0xFF
  | none :: _ => 0xFE
  | some n :: _ => byteOf n.val

/-- R194: page 2 from byte 7: the lanes, the shuttle and the queue (R98, R121, R157). -/
def statusPage2 (s : State) : List Byte :=
  s.lanes.toList.map (fun u => u.run.byte) ++
  [ byteOf ((List.finRange 64).countP (fun n => (s.stack n).state == .free)), byteOf s.shuttle.state.code ] ++
  transferBytes s.shuttle.state ++
  [ byteOf s.queue.entries.length, byteOf (s.queue.entries.countP (fun e => e.isNone)), headByte s.queue.entries ] ++
  beBytes 4 s.queue.nextSeq.toNat ++ s.shuttle.credits.toList.map byteOf ++
  [match s.shuttle.lastWinner with | none => 0 | some l => byteOf (laneNumber l)]

/-- R194: page 3 from byte 7: the counters and record memory (R171, R188). -/
def statusPage3 (s : State) : List Byte :=
  s.counters.toList.flatMap (fun k =>
    beBytes 2 k.working.toNat ++ beBytes 2 k.published.toNat ++ beBytes 2 k.rows) ++
  beBytes 2 s.memory.corrected.toNat ++ [byteOf s.memory.scrub, flagByte s.geometryDamaged] ++
  beBytes 2 (bitsOf ((List.finRange 16).map (fun j => s.isDamaged (.job j)))) ++
  beBytes 2 (laneSetOf (fun l => s.isDamaged (.lane l))) ++
  [ byteOf (bitsOf ((List.finRange 4).map s.counterOff)),
    byteOf ((List.finRange 64).countP (fun n => (s.stack n).state == .quarantined .damaged)) ]

/-- R194: a STATUS page from byte 7. -/
def statusPage (s : State) (page : Byte) : List Byte :=
  match page.toNat with
  | 0 => statusPage0 s
  | 1 => statusPage1 s
  | 2 => statusPage2 s
  | _ => statusPage3 s

/-- R175, R190, R194: the checks of a STATUS: no level cause and no member beyond the twelve in the clear mask, a flag byte,
a page 0 to 3. -/
def statusTaken (mask : BitVec 16) (quality page : Byte) : Bool :=
  mask &&& 0xFF00 == 0 && flagForm quality && page.toNat ≤ 3

/-- R175: STATUS; it is taken while PFAIL is asserted (R190). -/
def State.takeStatus (s : State) (mask : BitVec 16) (quality page : Byte) : State :=
  let b := { s with port := .building }
  let after := b.statusClear mask (quality == 1)
  if statusTaken mask quality page then after.answer .ok (statusHeader b after page ++ statusPage b page)
  else s.answer .errArg []

/-! ## ATTENTION MASK (R176) -/

/-- R176: ATTENTION MASK by its own rule. -/
def attentionMaskRule (enabled : BitVec 16) (s : State) : State × Status × List Byte :=
  let t := { s with attention := { s.attention with enabled := enabled } }
  reply t (beBytes 2 enabled.toNat ++ beBytes 2 t.pendingSet.toNat)

/-! ## MODE (R161) -/

/-- R161: the response of MODE: the line mode and the target mode after the request. -/
def modePayload (s : State) : List Byte := [byteOf s.modes.mode.code, byteOf s.modes.target.code]

/-- R161, R72: entry to SEEK by MODE RUN. -/
def State.enterSeek (s : State) : State :=
  { s.setSettle 0 with modes := { mode := .seek, target := .run } }

/-- R161: what a MODE RUN that is taken does. -/
def State.modeRun (s : State) : State :=
  match s.modes.mode with
  | .parked => s.enterSeek
  | .draining => s.enterSeek
  | .seek => s
  | .tracking => s.raise .modeReached

/-- R161: what a MODE PARK that is taken does. -/
def State.modePark (s : State) : State :=
  match s.modes.mode with
  | .parked => s.raise .modeReached
  | .draining => s
  | .seek => s.enterDraining
  | .tracking => s.enterDraining

/-- R161: MODE RUN by its own rule. -/
def modeRunRule (s : State) : State × Status × List Byte :=
  if s.geometryDamaged then refuse s .errDamaged else reply s.modeRun (modePayload s.modeRun)

/-- R161: MODE PARK by its own rule. -/
def modeParkRule (s : State) : State × Status × List Byte := reply s.modePark (modePayload s.modePark)

/-! ## COUNTER WRITE and COUNTER READ (R170, R171) -/

/-- R170: a configuration written to the record and the working copy, the counter's values set to 0. Every word of the
record is replaced, so nothing is read (R180). -/
def State.writeCounter (s : State) (c : CounterNo) (cfg : CounterConfig) : State :=
  ((s.setCounterRec c cfg).clearFlips (.counter c)).setCounter c
    { config := cfg, working := 0, published := 0, rows := 0 }

/-- R170: COUNTER WRITE by its own rule. -/
def counterWriteRule (p : CounterPayload) (s : State) : State × Status × List Byte :=
  match indexArg 4 p.counter, CounterPayload.config p with
  | some c, some cfg => reply (s.writeCounter c cfg) []
  | _, _ => refuse s .errArg

/-- R171: the configuration bytes, which read as zero when the record is damaged. -/
def counterReadBytes (s : State) (c : CounterNo) : List Byte :=
  if s.counterOff c then 1#8 :: List.replicate 11 0#8 else 0#8 :: counterBytes s.memory.counterRecs[c]

/-- R171: COUNTER READ by its own rule. -/
def counterReadRule (counter : Byte) (s : State) : State × Status × List Byte :=
  match indexArg 4 counter with
  | none => refuse s .errArg
  | some c =>
    let t := readRecord (.counter c) s
    reply t (counterReadBytes t c ++ beBytes 2 t.counters[c].working.toNat ++
      beBytes 2 t.counters[c].published.toNat ++ beBytes 2 t.counters[c].rows)

/-! ## The commands -/

/-- STATUS (R175, R194). -/
def execStatus (clearMask : BitVec 16) (qualityClear page : Byte) (s : State) : Result :=
  .next ((s.framed 4).takeStatus clearMask qualityClear page)

/-- ATTENTION_MASK (R176). -/
def execAttentionMask (enabled : BitVec 16) (s : State) : Result :=
  .next ((s.framed 2).request (setForm enabled) (attentionMaskRule enabled))

/-- MODE_RUN (R161). -/
def execModeRun (s : State) : Result := .next ((s.framed 1).request true modeRunRule)

/-- MODE_PARK (R161). -/
def execModePark (s : State) : Result := .next ((s.framed 1).request true modeParkRule)

/-- COUNTER_WRITE (R170). -/
def execCounterWrite (p : CounterPayload) (s : State) : Result :=
  .next ((s.framed 12).request (setForm p.laneSet && maskForm p.mask) (counterWriteRule p))

/-- COUNTER_READ (R171). -/
def execCounterRead (counter : Byte) (s : State) : Result := .next ((s.framed 1).request true (counterReadRule counter))

end Sys2Proof.Machine
end

