-- ==== Sys2Proof/Machine/Tables.lean ====
section
/-! DEFINITION. The requests on the geometry record (Chapter 4) and on the job and lane tables (Chapter 6): the commands
GEOMETRY_WRITE, GEOMETRY_READ, OFFSET_NUDGE, JOB_WRITE, JOB_READ, JOB_END, LANE_WRITE, LANE_READ and LANE_CLEAR. -/

namespace Sys2Proof.Machine

/-! ## The geometry record (R61, R62, R74, R155) -/

/-- A value clamped to ±`lTrim`. -/
def clampTrim (lTrim : Nat) (t : Int) : Int := clampInt (-(lTrim : Int)) lTrim t

/-- R61: the record after a GEOMETRY WRITE of settings `g` with T as given. -/
def writtenGeometry (old : GeometryRecord) (damaged : Bool) (g : Settings) (trim : Int) : GeometryRecord :=
  { damaged := false, settings := g, savedTrim := clampTrim g.lTrim (if damaged then trim else old.savedTrim) }

/-- R61: the record written with every field carried, the saved trim and T clamped, and every working copy reloaded. -/
def State.loadGeometry (s : State) (g : Settings) : State :=
  let t := (s.setGeometry (writtenGeometry s.memory.geometry s.geometryDamaged g s.register.trim)).clearFlips .geometry
  { t with register := { t.register with trim := clampTrim g.lTrim t.register.trim }, work := g }

/-- R42, R155: the blocks' part of a GEOMETRY WRITE: the verdict receiver drops its partial message and enters HUNT; the
credits are reloaded to the weights read from the lane records (R143), the last winner becomes none, and the arbiter
tests for a grant. A lane record found damaged at the read of the weights has its effects, a grant among them, before the
reload: the model's choice (log entry 31). -/
def State.applyGeometry (s : State) : State :=
  let t := readAll readRecord ((List.finRange 12).map .lane) (s.setVerdict (s.verdict.empty .hunt))
  State.grant { t.reloadCredits with shuttle := { t.reloadCredits.shuttle with lastWinner := none } }

/-- R61, R155: GEOMETRY WRITE by its own rule. The record is read before it is written, since its saved trim is kept (log
entry 10). -/
def geometryWriteRule (p : GeometryPayload) (s : State) : State × Status × List Byte :=
  if s.modes.mode ≠ .parked then refuse s .errState
  else
    match GeometryPayload.settings p with
    | none => refuse s .errArg
    | some g =>
      if g.inRange && g.rowCheck then
        if g.capacity < s.queue.entries.length + s.shuttle.state.inTransfer then refuse s .errState
        else reply ((readRecord .geometry s).loadGeometry g).applyGeometry []
      else refuse s .errArg

/-- R62: GEOMETRY READ by its own rule. -/
def geometryReadRule (s : State) : State × Status × List Byte :=
  let t := readRecord .geometry s
  if t.geometryDamaged then refuse t .errDamaged else reply t (geometryBytes t.memory.geometry)

/-- R74: O_cut written into the record and the working copy. -/
def State.setOffset (s : State) (o : Int) : State :=
  let g := s.memory.geometry
  { s.setGeometry { g with settings := { g.settings with oCut := o } } with work := { s.work with oCut := o } }

/-- R74: OFFSET NUDGE by its own rule. -/
def offsetNudgeRule (delta : BitVec 16) (s : State) : State × Status × List Byte :=
  let t := readRecord .geometry s
  if t.geometryDamaged then refuse t .errDamaged
  else
    let sum := t.memory.geometry.settings.oCut + delta.toInt
    let o := clampInt (-4000) 4000 sum
    reply (if delta = 0 then t else t.setOffset o) (be16s o ++ [flagByte (decide (sum ≠ o))])

/-! ## Jobs (R101 to R107) -/

/-- R101: the OPEN records are read. -/
def State.readOpenStacks (s : State) : State :=
  readAll readRecord (((List.finRange 64).filter (fun n => (s.stack n).state == .opened)).map .stack) s

/-- Some OPEN record that bears the slot's number meets a test. -/
def State.someOpenStack (s : State) (j : JobSlot) (p : StackRecord → Bool) : Bool :=
  (List.finRange 64).any (fun n => (s.stack n).state == .opened && (s.stack n).slot == j && p (s.stack n))

/-- R101: another slot that is ACTIVE or ENDING holds the job id. -/
def State.jobIdElsewhere (s : State) (j : JobSlot) (id : BitVec 16) : Bool :=
  (List.finRange 16).any (fun k =>
    k != j && ((s.job k).state == .active || (s.job k).state == .ending) && (s.job k).jobId == id)

/-- R101: some lane names the slot. The lane records are not read for this test: the model's choice (log entry 10). -/
def State.namedByLane (s : State) (j : JobSlot) : Bool := (List.finRange 12).any (fun l => s.laneNames l j)

/-- R101: the serial rule carried differs from the slot's. -/
def serialRuleDiffers (r : JobRecord) (mode : SerialMode) (p : JobPayload) : Bool :=
  r.serialMode != mode || r.step != p.step.toNat

/-- R102, R103: the record a JOB WRITE leaves; the first ordinal 0 stands for `keep`. -/
def writtenJob (p : JobPayload) (mode : SerialMode) (keep : BitVec 16) : JobRecord :=
  { state := .active
    jobId := p.jobId
    name := p.name
    target := p.target.toNat
    serialMode := mode
    step := p.step.toNat
    gapLimit := p.gapLimit.toNat
    sampleEnable := p.sampleEnable == 1
    sampleValue := p.sampleValue.setWidth 6
    sampleMask := p.sampleMask.setWidth 6
    nextOrdinal := if p.firstOrdinal = 0 then keep else p.firstOrdinal }

/-- R88, R179: the running condition of a lane tested again, after the records it looks at have been read. -/
def State.readAndRetest (s : State) (l : Lane) : State := (s.readForOpening l).retestLane l

/-- R102: the lane table tests every lane that names the slot. -/
def State.retestNaming (s : State) (j : JobSlot) : State :=
  (List.finRange 12).foldl (fun t l => if t.laneNames l j then t.readAndRetest l else t) s

/-- R193: the response of JOB WRITE and JOB END. -/
def slotPayload (s : State) (j : JobSlot) : List Byte := [byteOf (s.job j).state.code]

/-- R101, R102: JOB WRITE for a slot found EMPTY or DAMAGED. -/
def jobWriteNew (p : JobPayload) (mode : SerialMode) (j : JobSlot) (s : State) : State × Status × List Byte :=
  let damaged := (s.job j).state == .damaged
  let t := readAll readRecord (((List.finRange 16).filter (fun k => k != j)).map .job) s
  if t.jobIdElsewhere j p.jobId then refuse t .errState
  else if damaged && t.slotReferenced j then refuse t .errState
  else
    let u := t.readOpenStacks
    if u.someOpenStack j (fun r => r.jobId == p.jobId) && (damaged || serialRuleDiffers (u.job j) mode p) then
      refuse u .errState
    else
      let v := ((u.setJob j (writtenJob p mode 1)).clearFlips (.job j)).retestNaming j
      reply v (slotPayload v j)

/-- R101, R103: JOB WRITE for an ACTIVE slot. -/
def jobWriteActive (p : JobPayload) (mode : SerialMode) (j : JobSlot) (s : State) : State × Status × List Byte :=
  if (s.job j).jobId ≠ p.jobId then refuse s .errState
  else
    let t := s.readOpenStacks
    if serialRuleDiffers (t.job j) mode p &&
        (t.namedByLane j || t.slotReferenced j || t.someOpenStack j (fun _ => true)) then refuse t .errState
    else if t.someOpenStack j (fun r => r.jobId == p.jobId &&
        r.serial.any (fun sp => decide (p.gapLimit.toNat < sp.foreseen))) then refuse t .errState
    else
      let u := (t.setJob j (writtenJob p mode (t.job j).nextOrdinal)).clearFlips (.job j)
      reply u (slotPayload u j)

/-- R101: JOB WRITE by its own rule. -/
def jobWriteRule (p : JobPayload) (s : State) : State × Status × List Byte :=
  match indexArg 16 p.slot, SerialMode.ofCode p.serialMode.toNat with
  | some j, some mode =>
    if JobPayload.inRange p then
      let t := readRecord (.job j) s
      match (t.job j).state with
      | .ending => refuse t .errState
      | .active => jobWriteActive p mode j t
      | _ => jobWriteNew p mode j t
    else refuse s .errArg
  | _, _ => refuse s .errArg

/-- R107: the open rows that reference the slot. -/
def State.referencingRows (s : State) (j : JobSlot) : Nat :=
  s.openSlots.countP (fun i =>
    (s.rowAt i).any (fun r => r.lanes.toList.any (fun e => e.snapshot == some j)))

/-- R107: the OPEN stacks of the slot's job. -/
def State.openStacksOf (s : State) (j : JobSlot) : Nat :=
  (List.finRange 64).countP (fun n =>
    (s.stack n).state == .opened && (s.stack n).slot == j && (s.stack n).jobId == (s.job j).jobId)

/-- R107, R193: the 32 bytes of JOB READ. -/
def jobReadBytes (s : State) (j : JobSlot) : List Byte :=
  byteOf (s.job j).state.code :: jobBytes (s.job j) ++
  [ byteOf ((List.finRange 12).countP (fun l => s.laneNames l j)), byteOf (s.referencingRows j),
    byteOf (s.openStacksOf j) ]

/-- R107: JOB READ by its own rule; the OPEN stacks it counts are read. -/
def jobReadRule (slot : Byte) (s : State) : State × Status × List Byte :=
  match indexArg 16 slot with
  | none => refuse s .errArg
  | some j =>
    let t := readRecord (.job j) s
    if (t.job j).state = .damaged then refuse t .errDamaged
    else reply t.readOpenStacks (jobReadBytes t.readOpenStacks j)

/-- R105, R106: an ACTIVE job ended. -/
def State.endJob (s : State) (j : JobSlot) : State :=
  if s.slotReferenced j then s.setJob j { s.job j with state := .ending }
  else (s.setJob j { s.job j with state := .empty }).slotGone j

/-- R105: JOB END by its own rule. -/
def jobEndRule (slot : Byte) (s : State) : State × Status × List Byte :=
  match indexArg 16 slot with
  | none => refuse s .errArg
  | some j =>
    let t := readRecord (.job j) s
    if (t.job j).state = .active then reply (t.endJob j) (slotPayload (t.endJob j) j) else refuse t .errState

/-! ## Lanes (R91, R109, R110, R115) -/

/-- R109: the checks of a LANE WRITE other than the lane and the slot. -/
def LanePayload.inRange (p : LanePayload) : Bool :=
  p.priority.toNat ≤ 15 && weightForm p.weight &&
    (p.originPresent != 1 || p.origin.toNat ≤ 99999999)

/-- R108, R109: the row origin after a LANE WRITE: one without an origin keeps it only for the slot that an undamaged record
named before; naming none makes it NONE, whatever was named before. -/
def rowOriginAfter (p : LanePayload) (damaged : Bool) (old new : Option JobSlot) (kept : RowOrigin) : RowOrigin :=
  if p.originPresent = 1 then .pending
  else if damaged = false ∧ old = new ∧ new.isSome then kept
  else .none

/-- R109: the retentive part a LANE WRITE leaves; the serial origin is kept when none is carried. -/
def writtenLane (p : LanePayload) (slot : Option JobSlot) (kept : Nat) : LaneRecord :=
  { damaged := false
    enabled := p.enabled == 1
    slot := slot
    origin := if p.originPresent = 1 then p.origin.toNat else kept
    priority := p.priority.toNat
    weight := p.weight.toNat }

/-- R109: a LANE WRITE that keeps the serial origin first reads the record; one that carries every field does not (R180). -/
def State.readForLaneWrite (s : State) (p : LanePayload) (l : Lane) : State :=
  if p.originPresent = 1 then s else readRecord (.lane l) s

/-- R109, R110: the record and the row origin written, and the running condition tested again. -/
def State.writeLane (s : State) (p : LanePayload) (l : Lane) (slot : Option JobSlot) : State :=
  let old := s.memory.laneRecs[l]
  let t := (s.setLaneRec l (writtenLane p slot old.origin)).clearFlips (.lane l)
  (t.setLane l { t.lanes[l] with
      rowOrigin := rowOriginAfter p (s.isDamaged (.lane l)) old.slot slot t.lanes[l].rowOrigin }).readAndRetest l

/-- R193: the response of LANE WRITE and LANE CLEAR: the run state and the stack sealed. -/
def lanePayload (s : State) (l : Lane) (sealed : Option StackNo) : List Byte :=
  [byteOf s.lanes[l].run.code, indexByte sealed]

/-- R110: the OPEN stack of a lane whose running condition does not hold is sealed with LANE_OFF. -/
def State.sealStopped (s : State) (l : Lane) : State × Option StackNo :=
  if s.runningCondition l then (s, none) else s.sealLane l .laneOff

/-- R109, R110: LANE WRITE by its own rule. The stack reported is the one that `sealStopped` seals; one that damage found at a
read of the request has sealed is not reported: the model's choice (log entry 32). -/
def laneWriteRule (p : LanePayload) (s : State) : State × Status × List Byte :=
  match laneArg p.lane, slotArg p.slot with
  | some l, some slot =>
    if LanePayload.inRange p then
      let r := ((s.readForLaneWrite p l).writeLane p l slot).sealStopped l
      reply r.1 (lanePayload r.1 l r.2)
    else refuse s .errArg
  | _, _ => refuse s .errArg

/-- R115: the configuration bytes of LANE READ, which read as zero when the record is damaged. -/
def laneConfigBytes (s : State) (l : Lane) : List Byte :=
  if s.isDamaged (.lane l) then 1#8 :: List.replicate 8 0#8
  else
    let r := s.memory.laneRecs[l]
    [0#8, flagByte r.enabled, indexByte r.slot] ++ beBytes 4 r.origin ++ [byteOf r.priority, byteOf r.weight]

/-- R193: the row origin bytes. -/
def rowOriginBytes : RowOrigin → List Byte
  | .none => 0#8 :: beBytes 4 0
  | .pending => 1#8 :: beBytes 4 0
  | .row r => 2#8 :: beBytes 4 r.toNat

/-- R98, R193: the runtime bytes of a lane. -/
def laneRuntimeBytes (u : LaneUnit) : List Byte :=
  [ u.run.byte, u.consecutiveLost, byteOf (causeCode u.skipCause), flagByte u.skipRow.isSome ] ++
  beBytes 4 (match u.skipRow with | none => 0 | some r => r.toNat) ++ beBytes 2 u.stray.toNat ++ [byteOf u.gate.code]

/-- R115, R193: the lane's OPEN record, its SEALED records in ascending number, its HELD and its READY record. -/
def laneStackBytes (s : State) (l : Lane) : List Byte :=
  let sealed := (List.finRange 64).filter (fun n =>
    (s.stack n).state == .sealed && (s.stack n).lane == laneNumber l)
  [ indexByte (s.openOf l), indexByte sealed[0]?, indexByte sealed[1]?, indexByte (s.heldOf l), indexByte (s.readyOf l) ]

/-- R115, R193: the 31 bytes of LANE READ. -/
def laneReadBytes (s : State) (l : Lane) : List Byte :=
  laneConfigBytes s l ++ rowOriginBytes s.lanes[l].rowOrigin ++ [flagByte (s.runningCondition l)] ++
  laneRuntimeBytes s.lanes[l] ++ laneStackBytes s l

/-- R115: LANE READ by its own rule; the records that its running condition looks at are read. -/
def laneReadRule (lane : Byte) (s : State) : State × Status × List Byte :=
  match laneArg lane with
  | none => refuse s .errArg
  | some l => reply (s.readForOpening l) (laneReadBytes (s.readForOpening l) l)

/-- R91, steps 1 and 2: the consecutive-lost count at 0 and the run state by the running condition. -/
def State.unjam (s : State) (l : Lane) : State :=
  s.setLane l { s.lanes[l] with
    consecutiveLost := 0, run := if s.runningCondition l then .active else .off }

/-- R91: LANE CLEAR by its own rule; the records that the running condition looks at are read first. The stack reported is the
one the close option seals (log entry 32). -/
def laneClearRule (lane close : Byte) (s : State) : State × Status × List Byte :=
  match laneArg lane with
  | none => refuse s .errArg
  | some l =>
    if s.lanes[l].run = .jammed then
      let t := (s.readForOpening l).unjam l
      let r := if close = 1 then t.sealLane l .close else (t, none)
      reply r.1 (lanePayload r.1 l r.2)
    else refuse s .errState

/-! ## The commands -/

/-- GEOMETRY_WRITE (R61). -/
def execGeometryWrite (p : GeometryPayload) (s : State) : Result :=
  .next ((s.framed 51).request true (geometryWriteRule p))

/-- GEOMETRY_READ (R62). -/
def execGeometryRead (s : State) : Result := .next ((s.framed 0).request true geometryReadRule)

/-- OFFSET_NUDGE (R74). -/
def execOffsetNudge (delta : BitVec 16) (s : State) : Result :=
  .next ((s.framed 2).request true (offsetNudgeRule delta))

/-- JOB_WRITE (R101 to R103). -/
def execJobWrite (p : JobPayload) (s : State) : Result :=
  .next ((s.framed 29).request (flagForm p.sampleEnable) (jobWriteRule p))

/-- JOB_READ (R107). -/
def execJobRead (slot : Byte) (s : State) : Result := .next ((s.framed 1).request true (jobReadRule slot))

/-- JOB_END (R105). -/
def execJobEnd (slot : Byte) (s : State) : Result := .next ((s.framed 1).request true (jobEndRule slot))

/-- LANE_WRITE (R109, R110). -/
def execLaneWrite (p : LanePayload) (s : State) : Result :=
  .next ((s.framed 10).request (flagForm p.enabled && flagForm p.originPresent) (laneWriteRule p))

/-- LANE_READ (R115). -/
def execLaneRead (lane : Byte) (s : State) : Result := .next ((s.framed 1).request true (laneReadRule lane))

/-- LANE_CLEAR (R91). -/
def execLaneClear (lane close : Byte) (s : State) : Result :=
  .next ((s.framed 2).request (flagForm close) (laneClearRule lane close))

end Sys2Proof.Machine
end

