-- ==== Sys2Proof/Machine/Stacks.lean ====
section
/-! DEFINITION. The requests on one stack record (Chapter 7): the commands STACK_READ, STACK_CLOSE and STACK_TARGET. -/

namespace Sys2Proof.Machine

/-- R132: STACK READ by its own rule. -/
def stackReadRule (stack part : Byte) (s : State) : State × Status × List Byte :=
  match indexArg 64 stack with
  | none => refuse s .errArg
  | some n =>
    if part = 0 ∨ part = 1 then
      let t := readRecord (.stack n) s
      reply t (if part = 0 then stackPart0 n (t.stack n) else stackPart1 (t.stack n))
    else refuse s .errArg

/-- R135: the state a record took at its seal and completion: READY for one that the arbiter has granted in the same event,
since the state reported is SEALED, READY, HELD or FREE. -/
def StackState.beforeGrant : StackState → StackState
  | .transfer => .ready
  | st => st

/-- R135, R193: the response of STACK CLOSE. -/
def closePayload (s : State) (n : StackNo) : List Byte := [byteOf n.val, byteOf (s.stack n).state.beforeGrant.code]

/-- R135: STACK CLOSE by its own rule. An OPEN record that a misread hands on in another state or lane is not sealed, and
the request answers ERR_DAMAGED for it as well: the model's choice (log entry 16). -/
def stackCloseRule (lane : Byte) (s : State) : State × Status × List Byte :=
  match laneArg lane with
  | none => refuse s .errArg
  | some l =>
    match s.openOf l with
    | none => refuse s .errState
    | some _ =>
      match s.sealLane l .close with
      | (t, some n) => reply t (closePayload t n)
      | (t, none) => refuse t .errDamaged

/-- R136: the target of an OPEN record set, with the seal when it equals the committed count. -/
def State.setTarget (s : State) (n : StackNo) (v : Nat) : State :=
  let t := s.setStack n { s.stack n with target := v }
  if (s.stack n).committed = v then t.seal n .target else t

/-- R136, R193: the response of STACK TARGET. The state is the one before a grant of the same event, as R135 has it for STACK
CLOSE; that R136 has it so too is the model's choice (log entry 29). -/
def targetPayload (s : State) (n : StackNo) : List Byte :=
  beBytes 2 (s.stack n).target ++ [byteOf (s.stack n).state.beforeGrant.code]

/-- R136: STACK TARGET by its own rule. A record that is not OPEN is refused without a read: the model's choice (log
entry 30). -/
def stackTargetRule (stack : Byte) (value : BitVec 16) (s : State) : State × Status × List Byte :=
  match indexArg 64 stack with
  | none => refuse s .errArg
  | some n =>
    if (s.stack n).state = .opened then
      let t := readRecord (.stack n) s
      if (t.stack n).state = .opened then
        if inRange 1 value.toNat 9999 = true ∧ (t.stack n).committed ≤ value.toNat then
          reply (t.setTarget n value.toNat) (targetPayload (t.setTarget n value.toNat) n)
        else refuse t .errArg
      else refuse t .errState
    else refuse s .errState

/-- STACK_READ (R132). -/
def execStackRead (stack part : Byte) (s : State) : Result :=
  .next ((s.framed 2).request true (stackReadRule stack part))

/-- STACK_CLOSE (R135). -/
def execStackClose (lane : Byte) (s : State) : Result := .next ((s.framed 1).request true (stackCloseRule lane))

/-- STACK_TARGET (R136). -/
def execStackTarget (stack : Byte) (value : BitVec 16) (s : State) : Result :=
  .next ((s.framed 3).request true (stackTargetRule stack value))

end Sys2Proof.Machine
end

