-- ==== Sys2Proof/Machine/Power.lean ====
section
/-! DEFINITION. Power-fail (R185, R186, R76) and the reset sequence (R187 with the reset state each chapter gives): the
commands PFAIL_ASSERT, SAVED_TRIM_WRITE, PFAIL_NEGATE, COLD_RESET and RESET. -/

namespace Sys2Proof.Machine

/-! ## Power-fail -/

/-- R185, R76: the assertion of PFAIL; T is handed over for the saved trim unless the geometry record is damaged. -/
def State.assertPfail (s : State) : State :=
  if s.pfail then s
  else
    { s.gatesToWaste with
        pfail := true
        memory := { s.memory with trimToSave := if s.geometryDamaged then none else some s.register.trim } }

/-- R76, R185, step 4: T handed over at the assertion is written as the saved trim, unless the record is damaged. The words
that the write stores get fresh check bits (R180; log entry 34). -/
def State.writeSavedTrim (s : State) : State :=
  match s.memory.trimToSave with
  | none => s
  | some t =>
    let r := readRecord .geometry { s with memory := { s.memory with trimToSave := none } }
    if r.geometryDamaged then r
    else (r.setGeometry { r.memory.geometry with savedTrim := t }).clearWords .geometry Config.savedTrimWord

/-! ## Before the steps -/

/-- R187: what the reset clears before the scan: the latched causes, the damaged set, and at cold reset the corrected-word
count; and a saved trim handed over and not yet written (log entry 21). -/
def State.beforeScan (s : State) (cold : Bool) : State :=
  { s with
      attention := { s.attention with latched := 0 }
      memory := { s.memory with
        damagedSet := [], trimToSave := none, corrected := if cold then 0 else s.memory.corrected } }

/-- R22, R41, R59, R77, R99, R165: the volatile state of the blocks that take fixed values, T and F16 apart. -/
def State.resetVolatile (s : State) (cold : Bool) : State :=
  { s with
      position := PositionUnit.reset
      ring := Ring.reset
      verdict := VerdictReceiver.reset
      register := RegisterUnit.reset (if cold then 0 else s.register.f16) s.register.trim
      lanes := Vector.replicate 12 LaneUnit.reset
      backLandings := 0
      modes := { mode := .parked, target := .park }
      memory := { s.memory with scrub := 0 } }

/-! ## Steps 2 and 3 of R187: geometry, jobs and lanes -/

/-- R187: RECORD_DAMAGED is raised when a record of the list carries its mark. -/
def State.raiseIfDamaged (s : State) (refs : List RecordRef) : State :=
  if refs.any s.isDamaged then s.raise .recordDamaged else s

/-- R77: T after a reset. -/
def trimAfterReset (s : State) (cold : Bool) : Int :=
  if s.geometryDamaged then 0 else if cold then s.memory.geometry.savedTrim else s.register.trim

/-- R187, step 2: the working copies and T. -/
def State.restoreGeometry (s : State) (cold : Bool) : State :=
  { s.raiseIfDamaged [.geometry] with
      work := if s.geometryDamaged then Settings.default else s.memory.geometry.settings
      register := { s.register with trim := trimAfterReset s cold } }

/-- R116: an ENDING slot becomes EMPTY; not while PFAIL is asserted, since it is a record write. -/
def State.restoreJob (s : State) (j : JobSlot) : State :=
  if s.pfail = false ∧ (s.job j).state = .ending then s.setJob j { s.job j with state := .empty } else s

/-- R99, R116: the run state of a lane after reset. -/
def runAfterReset (s : State) (l : Lane) : RunState :=
  match (s.laneRec l).slot with
  | none => .off
  | some j =>
    if (s.laneRec l).enabled = true ∧ (s.job j).state = .active ∧ (s.job j).serialized = false then .active else .off

/-- R99, R116, R187: the volatile state of the lanes set from the tables, and RECORD_DAMAGED raised for each job slot or lane
record that carries its mark. -/
def State.restoreLanes (s : State) : State :=
  { s with lanes := vtab (fun l => { LaneUnit.reset with run := runAfterReset s l }) }.raiseIfDamaged
    ((List.finRange 16).map RecordRef.job ++ (List.finRange 12).map RecordRef.lane)

/-! ## Step 4 of R187: stacks -/

/-- R138: the serial part of a restored OPEN or SEALED record. -/
def restoredSerial (sp : SerialPart) : SerialPart :=
  match sp.lastLanded with
  | some k => { sp with lastCommitted := some k }
  | none => { sp with first := none, lastCommitted := none, gaps := [] }

/-- R138: an OPEN or SEALED record restored. -/
def restoredForming (r : StackRecord) : StackRecord :=
  { r with
      committed := r.landed
      lost := 0
      flags := { r.flags with resumed := true }
      serial := r.serial.map restoredSerial }

/-- R138: a record restored by its state. -/
def restoredStack (r : StackRecord) : StackRecord :=
  match r.state with
  | .opened => restoredForming r
  | .sealed => restoredForming r
  | .transfer => { r with state := .quarantined .transfer }
  | _ => r

/-- R138: one record restored in the image; not while PFAIL is asserted, since it is a record write (log entry 15). -/
def State.restoreStack (s : State) (n : StackNo) : State :=
  if s.pfail then s else s.setStack n (restoredStack (s.stack n))

/-- R139, step 1: the OPEN record of a lane whose lane record is damaged is sealed with LANE_OFF; not while PFAIL is
asserted. Its completion is left to step 2, among the lane's SEALED records: the model's choice (log entry 39). -/
def State.restoreSeal (s : State) (l : Lane) : State :=
  if s.pfail = false ∧ s.isDamaged (.lane l) = true then
    match s.openOf l with
    | none => s
    | some n => s.setStack n { s.stack n with state := .sealed, sealReason := some .laneOff }
  else s

/-- R139, step 2: a SEALED record of the lane is completed; not while PFAIL is asserted. -/
def State.restoreComplete (s : State) (l : Lane) (n : StackNo) : State :=
  if s.pfail = false ∧ (s.stack n).lane = laneNumber l ∧ (s.stack n).complete = true then s.moveComplete n else s

/-- R139, step 3: the lane's HELD record is pushed; the scan has read it (log entry 40). Not while PFAIL is asserted. -/
def State.restorePush (s : State) (l : Lane) : State :=
  if s.pfail then s else State.pushHeldWith (fun _ t => t) l s

/-! ## Steps 5 and 6 of R187: the shuttle, the queue, the counters and attention -/

/-- The delivery sequence of a record. -/
def seqOf (s : State) (n : StackNo) : BitVec 32 := (s.stack n).deliverySeq.getD 0

/-- R159: a record entered among others by its delivery sequence. -/
def insertDelivered (s : State) (n : StackNo) : List StackNo → List StackNo
  | [] => [n]
  | m :: ms => if posBefore (seqOf s n) (seqOf s m) then n :: m :: ms else m :: insertDelivered s n ms

/-- R159: the DELIVERED records ordered by delivery sequence, the oldest at the head. -/
def State.deliveredInOrder (s : State) : List StackNo :=
  ((List.finRange 64).filter (fun n => (s.stack n).state == .delivered)).foldr (insertDelivered s) []

/-- R159: one past the delivery sequence of the tail entry, or 0. -/
def nextSeqAfter (s : State) (entries : List StackNo) : BitVec 32 :=
  match entries.getLast? with
  | none => 0
  | some n => seqOf s n + 1

/-- R158: the shuttle arbiter after reset; the power-fail take count is kept at warm reset (R157). The weights are taken as
the scan left them, without a further read through the check: the model's choice (log entry 40). -/
def State.resetShuttle (s : State) (cold : Bool) : State :=
  { s with shuttle :=
      { state := .idle
        credits := vtab (fun l => (s.laneRec l).weight)
        lastWinner := none
        faults := 0
        timeouts := 0
        lateDones := 0
        strayHandshakes := 0
        strayTakes := 0
        powerFailTakes := if cold then 0 else s.shuttle.powerFailTakes } }

/-- R159: the queue rebuilt, and the working C raised to its length when the geometry record is damaged. -/
def State.rebuildQueue (s : State) : State :=
  { s with
      queue := { entries := s.deliveredInOrder.map some, nextSeq := nextSeqAfter s s.deliveredInOrder }
      work := { s.work with capacity :=
        if s.geometryDamaged then max s.work.capacity s.deliveredInOrder.length else s.work.capacity } }

/-- R172: a counter after reset: its values kept at warm reset, 0 at cold reset and while it is off. -/
def counterAfterReset (s : State) (cold : Bool) (c : CounterNo) : CounterState :=
  if cold || s.counterOff c then { config := s.memory.counterRecs[c], working := 0, published := 0, rows := 0 }
  else { s.counters[c] with config := s.memory.counterRecs[c] }

/-- R187, step 6: the counters and the attention logic (R172, R177). -/
def State.restoreCounters (s : State) (cold : Bool) : State :=
  { s with
      counters := vtab (counterAfterReset s cold)
      attention := { s.attention with enabled := 0x0FFF, qualityStop := false } }.raiseIfDamaged
    ((List.finRange 4).map RecordRef.counter)

/-! ## The reset sequence (R186, R187) -/

/-- A step of a reset. -/
abbrev ResetStep := State → State

/-- R187, step 1: every record read, in ascending record index. -/
def scanSteps : List ResetStep := allRecords.map scanRecord

/-- R187, step 3. -/
def tableSteps : List ResetStep :=
  (List.finRange 16).map (fun j s => s.restoreJob j) ++ [State.restoreLanes]

/-- R139: the three steps for one lane, its SEALED records in ascending stack number. -/
def laneSteps (l : Lane) : List ResetStep :=
  (fun s => s.restoreSeal l) ::
    ((List.finRange 64).map (fun n s => s.restoreComplete l n) ++ [fun s => s.restorePush l])

/-- R187, step 4: each record by R138, then each lane by R139. -/
def stackSteps : List ResetStep :=
  (List.finRange 64).map (fun n s => s.restoreStack n) ++ (List.finRange 12).flatMap laneSteps

/-- R187, steps 5 and 6. -/
def lastSteps (cold : Bool) : List ResetStep :=
  [fun s => (s.resetShuttle cold).rebuildQueue, fun s => s.grant, fun s => s.restoreCounters cold]

/-- R187: the steps of the reset sequence in their order: 974, of which no single one writes two records but a grant. -/
def resetSteps (cold : Bool) : List ResetStep :=
  scanSteps ++ (fun s => s.restoreGeometry cold) :: (tableSteps ++ stackSteps ++ lastSteps cold)

/-- R186: the level of PFAIL at the step with index `k`. -/
def pfailAt (pfailFrom : Option Nat) (k : Nat) : Bool :=
  match pfailFrom with
  | none => false
  | some i => decide (i ≤ k)

/-- R186: the steps from the one with index `k` on, each under the level of PFAIL that then stands; at the end PFAIL stands
asserted when it was asserted before any step or after the last. -/
def runSteps (pfailFrom : Option Nat) : Nat → List ResetStep → State → State
  | _, [], s => { s with pfail := pfailFrom.isSome }
  | k, f :: fs, s => runSteps pfailFrom (k + 1) fs (f { s with pfail := pfailAt pfailFrom k })

/-- R187: the reset sequence, as one operation. -/
def State.resetPart (s : State) (cold : Bool) (pfailFrom : Option Nat) : State :=
  runSteps pfailFrom 0 (resetSteps cold) ((s.beforeScan cold).resetVolatile cold)

/-! ## The part's edges while a reset is in progress (R77, R189, R191) -/

/-- R189: a response was ready at the start of a transfer, and its check byte has not been shifted out after `n` bytes. -/
def ResponseSlot.unread (port : ResponseSlot) (n : Nat) : Bool :=
  match port with
  | .ready frame => n < frame.length
  | _ => false

/-- R189, R191: the bytes that a transfer under way at a reset shifts out: what the port held until the reset, 0x00 while it
is in progress, and after its end a free value when the reset cut a response short (log entry 25), else 0x00: the rule for
what follows the check byte, and for a transfer that found no response ready. -/
def cutBytes (port : ResponseSlot) (free : Nat) (x : CutTransfer) : List Byte :=
  shiftedOut port x.before ++ List.replicate x.within 0 ++
    (if port.unread x.before then (List.range x.after).map (Config.sdoAfterReset free) else List.replicate x.after 0)

/-- R189: the transfer under way at a reset is ignored to its end, but for its bytes on SDO. -/
def State.cutTransfer (s : State) (cut : Option CutTransfer) : State :=
  match cut with
  | none => s
  | some x => { s.emit (.sdo (cutBytes s.port s.freeCount x)) with freeCount := s.freeCount + 1 }

/-- R191: a transfer that begins while a reset is in progress shifts out 0x00 throughout; a request is discarded without an
answer, and a read changes nothing. -/
def State.begunTransfer (s : State) (n : Nat) : State :=
  if n = 0 then s else s.emit (.sdo (List.replicate n 0))

/-- R77, R189, R191: what leaves the part at its edges around a reset: the characters of the trim message being sent that a
reset lets out, the rest of it discarded with the message (log entry 14), and the bytes of the transfers that meet it. -/
def State.edgesAtReset (s : State) (c : ResetCourse) : State :=
  c.begun.foldl State.begunTransfer ((s.putTrim c.trimSent).cutTransfer c.cut)

/-- R187: a reset with what happens at the part's edges. -/
def State.resetWith (s : State) (cold : Bool) (c : ResetCourse) : State :=
  (s.edgesAtReset c).resetPart cold c.pfailFrom

/-- R191: a reset that leaves the response slot empty. -/
def State.resetEmpty (s : State) (cold : Bool) (c : ResetCourse) : State :=
  { s.resetWith cold c with port := .empty }

/-- R186: the negation of PFAIL: the saved-trim write finishes first, then the warm reset follows. -/
def State.negatePfail (s : State) (c : ResetCourse) : State :=
  if s.pfail then s.writeSavedTrim.resetEmpty false c else s

/-- R191: RESET by its own rule: its response survives the warm reset. -/
def resetRule (c : ResetCourse) (s : State) : State × Status × List Byte := reply (s.resetWith false c) []

/-! ## The commands -/

/-- PFAIL_ASSERT (R185). -/
def execPfailAssert (s : State) : Result := .next s.assertPfail

/-- SAVED_TRIM_WRITE (R76, R185). -/
def execSavedTrimWrite (s : State) : Result := .next s.writeSavedTrim

/-- PFAIL_NEGATE (R186). -/
def execPfailNegate (c : ResetCourse) (s : State) : Result := .next (s.negatePfail c)

/-- COLD_RESET (R187). -/
def execColdReset (c : ResetCourse) (s : State) : Result := .next (s.resetEmpty true c)

/-- RESET (R191). -/
def execReset (c : ResetCourse) (s : State) : Result := .next ((s.framed 0).request true (resetRule c))

end Sys2Proof.Machine
end

