-- ==== Sys2Proof/Machine/Port.lean ====
section
/-! DEFINITION. The request port (R189 to R193): the judging of a request frame and the read transfer, with the commands
REFUSED_FRAME and RESPONSE_READ. -/

namespace Sys2Proof.Machine

/-! ## Fields of a payload -/

/-- The byte at an offset of a payload. -/
def payloadByte (p : List Byte) (k : Nat) : Byte := p.getD k 0

/-- The number in `len` bytes from an offset, most significant byte first (R192). -/
def payloadField (w : Nat) (p : List Byte) (k len : Nat) : BitVec w := BitVec.ofNat w (beNat ((p.drop k).take len))

/-- R197: the geometry payload read from its 51 bytes. -/
def geometryPayloadOf (p : List Byte) : GeometryPayload where
  pNom := payloadField 16 p 0 2
  wMark := payloadField 16 p 2 2
  lossLimit := payloadByte p 4
  dDie := payloadField 24 p 5 3
  wDie := payloadField 16 p 8 2
  oCut := payloadField 16 p 10 2
  dGate := payloadField 24 p 12 3
  lMin := payloadField 16 p 15 2
  lMax := payloadField 16 p 17 2
  upstream := payloadField 32 p 19 4
  lead := payloadField 16 p 23 2
  trail := payloadField 16 p 25 2
  rRev := payloadField 16 p 27 2
  filterShift := payloadByte p 29
  gain := payloadByte p 30
  slew := payloadField 16 p 31 2
  lTrim := payloadField 16 p 33 2
  tol := payloadField 16 p 35 2
  wOut := payloadField 16 p 37 2
  nSettle := payloadByte p 39
  capacity := payloadByte p 40
  watermark := payloadByte p 41
  shuttleTimeout := payloadField 16 p 42 2
  jamLimit := payloadByte p 44
  arbiter := payloadByte p 45
  inspection := payloadByte p 46
  verdictRate := payloadByte p 47
  trimRate := payloadByte p 48
  savedTrim := payloadField 16 p 49 2

/-- R193: the JOB WRITE payload read from its bytes. -/
def jobPayloadOf (p : List Byte) : JobPayload where
  slot := payloadByte p 0
  jobId := payloadField 16 p 1 2
  name := (p.drop 3).take 16
  target := payloadField 16 p 19 2
  serialMode := payloadByte p 21
  step := payloadByte p 22
  gapLimit := payloadByte p 23
  sampleEnable := payloadByte p 24
  sampleValue := payloadByte p 25
  sampleMask := payloadByte p 26
  firstOrdinal := payloadField 16 p 27 2

/-- R193: the LANE WRITE payload read from its bytes. -/
def lanePayloadOf (p : List Byte) : LanePayload where
  lane := payloadByte p 0
  enabled := payloadByte p 1
  slot := payloadByte p 2
  priority := payloadByte p 3
  weight := payloadByte p 4
  originPresent := payloadByte p 5
  origin := payloadField 32 p 6 4

/-- R193: the COUNTER WRITE payload read from its bytes. -/
def counterPayloadOf (p : List Byte) : CounterPayload where
  counter := payloadByte p 0
  laneSet := payloadField 16 p 1 2
  mask := payloadField 16 p 3 2
  unit := payloadByte p 5
  mode := payloadByte p 6
  window := payloadField 16 p 7 2
  threshold := payloadField 16 p 9 2
  action := payloadByte p 11

/-! ## The 23 requests (R193) -/

/-- R193: the payload length of a request, or `none` for a code the port does not know. -/
def requestLength : Nat → Option Nat
  | 0x01 => some 4
  | 0x02 => some 2
  | 0x03 => some 1
  | 0x04 => some 0
  | 0x10 => some 51
  | 0x11 => some 0
  | 0x12 => some 2
  | 0x20 => some 29
  | 0x21 => some 1
  | 0x22 => some 1
  | 0x30 => some 10
  | 0x31 => some 1
  | 0x32 => some 2
  | 0x40 => some 2
  | 0x41 => some 2
  | 0x42 => some 1
  | 0x43 => some 3
  | 0x44 => some 2
  | 0x50 => some 2
  | 0x51 => some 3
  | 0x60 => some 12
  | 0x61 => some 1
  | 0x70 => some 0
  | _ => none

/-- A request with `len` payload bytes refused with ERR_ARG, or ERR_POWER while PFAIL is asserted (R190). -/
def State.refuseArg (s : State) (len : Nat) : State := (s.framed len).request false (fun t => refuse t .errArg)

/-- R161: MODE takes 0x01 for RUN and 0x02 for PARK, and refuses any other argument. -/
def takeMode (b : Byte) (s : State) : Result :=
  if b = 1 then execModeRun s else if b = 2 then execModePark s else .next (s.refuseArg 1)

/-- R153, R154: STACK RETIRE by its ALL option, a flag byte. -/
def takeRetire (stack option : Byte) (s : State) : Result :=
  if option = 0 then execStackRetire stack s
  else if option = 1 then execStackRetireAll stack s
  else .next (s.refuseArg 2)

/-- R193: a request of known code, whose payload has the length of its code, acts by its own command. The RESET of a frame is
one during which nothing happens at the part's edges (log entry 22). -/
def takeRequest (code : Nat) (p : List Byte) (s : State) : Result :=
  match code with
  | 0x01 => execStatus (payloadField 16 p 0 2) (payloadByte p 2) (payloadByte p 3) s
  | 0x02 => execAttentionMask (payloadField 16 p 0 2) s
  | 0x03 => takeMode (payloadByte p 0) s
  | 0x04 => execReset ResetCourse.quiet s
  | 0x10 => execGeometryWrite (geometryPayloadOf p) s
  | 0x11 => execGeometryRead s
  | 0x12 => execOffsetNudge (payloadField 16 p 0 2) s
  | 0x20 => execJobWrite (jobPayloadOf p) s
  | 0x21 => execJobRead (payloadByte p 0) s
  | 0x22 => execJobEnd (payloadByte p 0) s
  | 0x30 => execLaneWrite (lanePayloadOf p) s
  | 0x31 => execLaneRead (payloadByte p 0) s
  | 0x32 => execLaneClear (payloadByte p 0) (payloadByte p 1) s
  | 0x40 => execStackRead (payloadByte p 0) (payloadByte p 1) s
  | 0x41 => execStackList (payloadByte p 0) (payloadByte p 1) s
  | 0x42 => execStackClose (payloadByte p 0) s
  | 0x43 => execStackTarget (payloadByte p 0) (payloadField 16 p 1 2) s
  | 0x44 => takeRetire (payloadByte p 0) (payloadByte p 1) s
  | 0x50 => execRowRead (payloadByte p 0) (payloadByte p 1) s
  | 0x51 => execRowReject (payloadByte p 0) (payloadField 16 p 1 2) s
  | 0x60 => execCounterWrite (counterPayloadOf p) s
  | 0x61 => execCounterRead (payloadByte p 0) s
  | _ => execShuttleClear s

/-! ## Judging a frame (R190) -/

/-- R190: a sound frame's code and payload: the byte count at least 4, n at most 60, the byte count n + 4, and the check byte
correct. The length byte decides n; the port keeps 64 bytes and counts every byte, so a longer transfer fails. -/
def soundFrame (bytes : List Byte) : Option (Byte × List Byte) :=
  match bytes with
  | _ :: code :: n :: rest =>
    if n.toNat ≤ 60 ∧ rest.length = n.toNat + 1 ∧
        rest.getLast? = some (crc8 (code :: n :: rest.dropLast)) then
      some (code, rest.dropLast)
    else none
  | _ => none

/-- R190: the frame of a request transfer judged. -/
def judgeFrame (bytes : List Byte) (s : State) : Result :=
  match soundFrame bytes with
  | none => .next ((s.clocked bytes.length).answer .errFrame [])
  | some (code, p) =>
    match requestLength code.toNat with
    | none => .next ((s.framed p.length).answer .errCode [])
    | some len =>
      if p.length = len then takeRequest code.toNat p s
      else if code = 1 then .next ((s.framed p.length).answer .errArg [])
      else .next (s.refuseArg p.length)

/-! ## The read transfer (R189, R191) -/

/-- R191: the response slot after a read transfer of `n` bytes: empty once the check byte has been shifted out. -/
def slotAfterRead (port : ResponseSlot) (n : Nat) : ResponseSlot :=
  match port with
  | .ready frame => if frame.length ≤ n then .empty else .ready frame
  | p => p

/-- R191: a read transfer in which `n` bytes are clocked. -/
def State.readTransfer (s : State) (n : Nat) : State :=
  if n = 0 then s else { s.clocked n with port := slotAfterRead s.port n }

/-- R189: a transfer is a request transfer when its first byte is 0x5A, and a read transfer otherwise. -/
def takeTransfer (bytes : List Byte) (s : State) : Result :=
  match bytes with
  | [] => .next s
  | b :: _ => if b = 0x5A then judgeFrame bytes s else .next (s.readTransfer bytes.length)

/-! ## The commands -/

/-- REFUSED_FRAME (R189, R190). -/
def execRefusedFrame (bytes : List Byte) (s : State) : Result := takeTransfer bytes s

/-- RESPONSE_READ (R189, R191). -/
def execResponseRead (n : Nat) (s : State) : Result := .next (s.readTransfer n)

end Sys2Proof.Machine
end

