-- ==== Sys2Proof/Machine/Dispatch.lean ====
section
/-! DEFINITION. The meaning of each command: one arm per constructor of `Instr`. -/

namespace Sys2Proof.Machine

/-- What a command does to everything but the queue of commands. -/
def exec (i : Instr) (s : State) : Host.Outcome State Fault Refusal :=
  match i with
  | .encoderTransition e => Sys2Proof.Machine.execEncoderTransition e s
  | .reverseEvent => Sys2Proof.Machine.execReverseEvent s
  | .mark => Sys2Proof.Machine.execMark s
  | .syntheticMark => Sys2Proof.Machine.execSyntheticMark s
  | .lossLimit => Sys2Proof.Machine.execLossLimit s
  | .riseToTracking => Sys2Proof.Machine.execRiseToTracking s
  | .splice => Sys2Proof.Machine.execSplice s
  | .spliceZoneExpiry => Sys2Proof.Machine.execSpliceZoneExpiry s
  | .spacingReferenceExpiry => Sys2Proof.Machine.execSpacingReferenceExpiry s
  | .dieIndex => Sys2Proof.Machine.execDieIndex s
  | .dieWindowEnd => Sys2Proof.Machine.execDieWindowEnd s
  | .trimMessageSent => Sys2Proof.Machine.execTrimMessageSent s
  | .verdictCharacter c => Sys2Proof.Machine.execVerdictCharacter c s
  | .idleGap => Sys2Proof.Machine.execIdleGap s
  | .gatePoint => Sys2Proof.Machine.execGatePoint s
  | .windowPublish c => Sys2Proof.Machine.execWindowPublish c s
  | .thresholdReached c => Sys2Proof.Machine.execThresholdReached c s
  | .pocket l => Sys2Proof.Machine.execPocket l s
  | .landingWindowEnd => Sys2Proof.Machine.execLandingWindowEnd s
  | .laneJammed l => Sys2Proof.Machine.execLaneJammed l s
  | .stackComplete n => Sys2Proof.Machine.execStackComplete n s
  | .heldPush l => Sys2Proof.Machine.execHeldPush l s
  | .laneUnblock => Sys2Proof.Machine.execLaneUnblock s
  | .rowRetire => Sys2Proof.Machine.execRowRetire s
  | .slotEmpty j => Sys2Proof.Machine.execSlotEmpty j s
  | .drainComplete => Sys2Proof.Machine.execDrainComplete s
  | .shuttleGrant => Sys2Proof.Machine.execShuttleGrant s
  | .done => Sys2Proof.Machine.execDone s
  | .fault => Sys2Proof.Machine.execFault s
  | .transferTimeout => Sys2Proof.Machine.execTransferTimeout s
  | .taken => Sys2Proof.Machine.execTaken s
  | .pfailAssert => Sys2Proof.Machine.execPfailAssert s
  | .savedTrimWrite => Sys2Proof.Machine.execSavedTrimWrite s
  | .pfailNegate course => Sys2Proof.Machine.execPfailNegate course s
  | .coldReset course => Sys2Proof.Machine.execColdReset course s
  | .status clearMask qualityClear page => Sys2Proof.Machine.execStatus clearMask qualityClear page s
  | .attentionMask enabled => Sys2Proof.Machine.execAttentionMask enabled s
  | .modeRun => Sys2Proof.Machine.execModeRun s
  | .modePark => Sys2Proof.Machine.execModePark s
  | .reset course => Sys2Proof.Machine.execReset course s
  | .geometryWrite p => Sys2Proof.Machine.execGeometryWrite p s
  | .geometryRead => Sys2Proof.Machine.execGeometryRead s
  | .offsetNudge delta => Sys2Proof.Machine.execOffsetNudge delta s
  | .jobWrite p => Sys2Proof.Machine.execJobWrite p s
  | .jobRead slot => Sys2Proof.Machine.execJobRead slot s
  | .jobEnd slot => Sys2Proof.Machine.execJobEnd slot s
  | .laneWrite p => Sys2Proof.Machine.execLaneWrite p s
  | .laneRead lane => Sys2Proof.Machine.execLaneRead lane s
  | .laneClear lane close => Sys2Proof.Machine.execLaneClear lane close s
  | .stackRead stack part => Sys2Proof.Machine.execStackRead stack part s
  | .stackList selector start => Sys2Proof.Machine.execStackList selector start s
  | .stackClose lane => Sys2Proof.Machine.execStackClose lane s
  | .stackTarget stack value => Sys2Proof.Machine.execStackTarget stack value s
  | .stackRetire stack => Sys2Proof.Machine.execStackRetire stack s
  | .stackRetireAll stack => Sys2Proof.Machine.execStackRetireAll stack s
  | .rowRead tag part => Sys2Proof.Machine.execRowRead tag part s
  | .rowReject tag lanes => Sys2Proof.Machine.execRowReject tag lanes s
  | .counterWrite p => Sys2Proof.Machine.execCounterWrite p s
  | .counterRead counter => Sys2Proof.Machine.execCounterRead counter s
  | .shuttleClear => Sys2Proof.Machine.execShuttleClear s
  | .refusedFrame bytes => Sys2Proof.Machine.execRefusedFrame bytes s
  | .responseRead count => Sys2Proof.Machine.execResponseRead count s

end Sys2Proof.Machine
end

