-- ==== Sys2Proof/Machine/Step.lean ====
section
/-! DEFINITION. One step of the part: the command at the front of the queue, or, when none waits, what the part does of
itself. -/

namespace Sys2Proof.Machine

/-- What the part does when no command waits: it acts on every threshold that is due, and writes a saved trim that was
handed over at the assertion of PFAIL (log entries 2 and 21). With neither, it idles. -/
def State.idle (s : State) : State := s.settle.writeSavedTrim

/-- One step: the front command acts on the state with the rest of the queue. -/
def step (s : State) : Host.Outcome State Fault Refusal :=
  match s.pending with
  | [] => .next s.idle
  | c :: rest => exec c { s with pending := rest }

/-- A state with the command that a word spells put at the front of its queue; unchanged when the word spells none. -/
def State.withFetchWord (s : State) (nbits w : Nat) : State :=
  match decodeTableWord nbits w with
  | none => s
  | some c => { s with pending := c :: s.pending }

end Sys2Proof.Machine
end

