-- ==== Sys2Proof/Safety.lean ====
section
/-! DEFINITION. The predicates on states that the statements use: a clean image, and the invariants of the part. -/

namespace Sys2Proof.Machine

/-- R179: no word of the image holds a flipped bit, so every read finds every word clean. -/
def State.clean (s : State) : Prop := s.memory.flips = []

/-- The image is clean, PFAIL is negated and no record stands in the damaged set: what R178 to R186 call the part's ordinary
condition. -/
structure State.sound (s : State) : Prop where
  clean : s.memory.flips = []
  power : s.pfail = false
  damaged : s.memory.damagedSet = []

/-- R160, R9, R10: the target mode is RUN exactly while the line mode is SEEK or TRACKING, and a mark is expected only then. -/
def State.modesAgree (s : State) : Prop :=
  (s.modes.target = .run ↔ s.modes.mode = .seek ∨ s.modes.mode = .tracking) ∧
    (s.position.expectation.isSome = true → s.modes.mode = .seek ∨ s.modes.mode = .tracking)

/-- R43, R67, R71, R72, R184: F16 within ±524,272, the settle count at most 32, at most four trim messages waiting and none
while nothing is sent, at most six characters kept, the scrub position at most 96. -/
structure State.inRanges (s : State) : Prop where
  f16 : -524272 ≤ s.register.f16 ∧ s.register.f16 ≤ 524272
  settle : s.register.settle ≤ 32
  waiting : s.register.waiting.length ≤ 4
  sending : s.register.sending = none → s.register.waiting = []
  kept : s.verdict.kept.length ≤ 6
  scrub : s.memory.scrub ≤ 96

/-- R149: the delivery queue mirrors the DELIVERED records. On a clean image with no record in the damaged set: a stack
number stands in the queue exactly while its record is DELIVERED, none stands there twice, the entries and the stack in
transfer number at most C, and C is the capacity of the geometry record unless that record is damaged. -/
structure State.queueMirrors (s : State) : Prop where
  clean : s.memory.flips = []
  damaged : s.memory.damagedSet = []
  delivered : ∀ n : StackNo, some n ∈ s.queue.entries ↔ s.memory.stackRecs[n].state = .delivered
  once : (s.queue.entries.filterMap id).Nodup
  capacity : s.queue.entries.length + s.shuttle.state.inTransfer ≤ s.work.capacity
  working : s.memory.geometry.damaged = false → s.memory.geometry.settings.capacity = s.work.capacity

/-- R23, R64, R92: `i` is the slot, and `r` the record, of the oldest open row that meets `p`. -/
def State.firstOpen (s : State) (p : RowRecord → Prop) (i : RingSlot) (r : RowRecord) : Prop :=
  ∃ older newer : List RingSlot, s.openSlots = older ++ i :: newer ∧ s.rowAt i = some r ∧ p r ∧
    ∀ j ∈ older, ∀ q, s.rowAt j = some q → ¬p q

/-- No open row meets `p`. -/
def State.noOpen (s : State) (p : RowRecord → Prop) : Prop := ∀ j ∈ s.openSlots, ∀ q, s.rowAt j = some q → ¬p q

/-- R8: the splice zone after a row is opened at `m`. -/
def zoneAfterOpening (zone : Option (Pos × Pos)) (m : Pos) : Option (Pos × Pos) :=
  match zone with
  | none => none
  | some z => if 0 ≤ posDiff m z.2 then none else some z

/-- R72, R73: the settle count after a row is opened in `mode`. -/
def settleAfterOpening (mode : LineMode) (how : Opening) (settle : Nat) : Nat :=
  if mode = .seek then
    match how with
    | .window => min (settle + 1) 32
    | .acquisition => settle
    | .synthetic => 0
  else settle

/-- R73, R162: the opening makes the line rise to TRACKING. -/
def riseAtOpening (s : State) (how : Opening) : Bool :=
  decide (s.modes.mode = .seek ∧ how = .window ∧ s.work.nSettle ≤ min (s.register.settle + 1) 32)

/-- R16 to R18, R24 to R27, R184: what a row opened at `m` leaves of a state with a clean image. -/
def State.withRowOpened (s : State) (how : Opening) (m : Pos) : State :=
  { s with
      position := { s.position with spacing := some m, zone := zoneAfterOpening s.position.zone m }
      ring :=
        { slots := vset s.ring.slots (ringSlot s.ring.next)
            (some { newRow s how m with lanes := vtab (fun l => (laneOpening s s.ring.next l).1) })
          next := s.ring.next + 1
          openCount := s.ring.openCount + 1 }
      lanes := vtab (fun l => { s.lanes[l] with rowOrigin := (laneOpening s s.ring.next l).2 })
      register := { s.register with settle := settleAfterOpening s.modes.mode how s.register.settle }
      modes := if riseAtOpening s how then { s.modes with mode := .tracking } else s.modes
      attention :=
        if riseAtOpening s how then
          { s.attention with latched := s.attention.latched ||| Attention.modeReached.set }
        else s.attention
      memory := { s.memory with scrub := (s.memory.scrub + 1) % 97 } }

/-- R80, R81: the condition of each waste line of the gate table, for lane `l` of row `r`, as `s` holds the records.
BLOCKED (line 14) is not among them: it is found by the commit. -/
def wasteCondition (s : State) (r : RowRecord) (l : Lane) : WasteReason → Prop
  | .laneOff =>
    r.lanes[l].snapshot = none ∨ s.lanes[l].run = .off ∨ ∃ j, r.lanes[l].snapshot = some j ∧ (s.job j).state = .damaged
  | .jam => s.lanes[l].run = .jammed
  | .reverse => r.flags.reverse = true
  | .marklost => r.flags.marklost = true
  | .settling => r.flags.settling = true
  | .splice => r.flags.splice = true
  | .miscut => r.flags.miscut = true
  | .misreg => r.flags.misreg = true
  | .print => r.lanes[l].camera = .print
  | .blank => r.lanes[l].camera = .blank
  | .manual => r.lanes[l].manual = true
  | .noverdict => r.lanes[l].camera = .pending ∧ s.work.inspection = .required
  | .blocked => False

/-- R87: a lane after a failure of row `row` with cause `c`: the skip cause and row are set when none is held. -/
def skipAfter (u : LaneUnit) (c : Cause) (row : RowNo) : LaneUnit :=
  match u.skipCause with
  | some _ => u
  | none => { u with skipCause := some c, skipRow := some row }

/-- R85, R129: the serial part of a record of a serialized job after the label with serial `k` is committed to it. -/
def serialAfterCommit (job : JobRecord) (label : Option Nat) (old : Option SerialPart) : Option SerialPart :=
  match old, label with
  | some sp, some k =>
    match sp.lastCommitted with
    | none => some { sp with first := some k, lastCommitted := some k }
    | some a =>
      some { sp with
        lastCommitted := some k
        foreseen := if serialDistance job.serialMode job.step a k = some 1 then sp.foreseen else sp.foreseen + 1 }
  | sp, _ => sp

/-- R3, R5: the command that acts on an event due at a count. -/
def DueEvent.command : DueEvent → Instr
  | .synthetic => .syntheticMark
  | .zoneExpiry => .spliceZoneExpiry
  | .spacingExpiry => .spacingReferenceExpiry
  | .reverse => .reverseEvent
  | .dieWindowEnd => .dieWindowEnd
  | .gatePoint => .gatePoint
  | .landingEnd => .landingWindowEnd

/-- The events due are taken one after the other, `k` times over. -/
def takeDueTimes : Nat → State → State
  | 0, s => s
  | k + 1, s => takeDueTimes k s.takeOneDue

/-- R193: the payload length of a command that is a request; 0 for any other. -/
def Instr.payloadLength : Instr → Nat
  | .status _ _ _ => 4
  | .attentionMask _ => 2
  | .modeRun => 1
  | .modePark => 1
  | .geometryWrite _ => 51
  | .offsetNudge _ => 2
  | .jobWrite _ => 29
  | .jobRead _ => 1
  | .jobEnd _ => 1
  | .laneWrite _ => 10
  | .laneRead _ => 1
  | .laneClear _ _ => 2
  | .stackRead _ _ => 2
  | .stackList _ _ => 2
  | .stackClose _ => 1
  | .stackTarget _ _ => 3
  | .stackRetire _ => 2
  | .stackRetireAll _ => 2
  | .rowRead _ _ => 2
  | .rowReject _ _ => 3
  | .counterWrite _ => 12
  | .counterRead _ => 1
  | _ => 0

/-- R131: a missing run of `len` serials from `start` as entries of at most 9,999, in their order. -/
def gapPieces (mode : SerialMode) (step start len : Nat) (cause : Cause) : List Gap :=
  (List.range ((len + 9998) / 9999)).map (fun i =>
    { start := serialAt mode step start (9999 * i), length := min 9999 (len - 9999 * i), cause := cause })

/-- The commands that are requests other than STATUS (R193). -/
def Instr.isRequest : Instr → Bool
  | .attentionMask _ => true
  | .modeRun => true
  | .modePark => true
  | .reset _ => true
  | .geometryWrite _ => true
  | .geometryRead => true
  | .offsetNudge _ => true
  | .jobWrite _ => true
  | .jobRead _ => true
  | .jobEnd _ => true
  | .laneWrite _ => true
  | .laneRead _ => true
  | .laneClear _ _ => true
  | .stackRead _ _ => true
  | .stackList _ _ => true
  | .stackClose _ => true
  | .stackTarget _ _ => true
  | .stackRetire _ => true
  | .stackRetireAll _ => true
  | .rowRead _ _ => true
  | .rowReject _ _ => true
  | .counterWrite _ => true
  | .counterRead _ => true
  | .shuttleClear => true
  | _ => false

end Sys2Proof.Machine
end

