-- ==== Sys2Proof/Certificates/Slice0/Obligations.lean ====
section
/-! DEFINITION. The statements about the model, for the provers. `State.clean` says that the record image holds no flipped
bit, so that no read of a record changes anything. -/

open Sys2Proof Sys2Proof.Machine

/-! ## The queue of commands and the invariants -/

/-- One step with `c` at the front of the queue is `exec c` on the state with the queue's rest: that commands wait in one
queue, first in first out, is the model's choice (log entry 1). So is the rest (log entries 2, 3 and 21): with no command
waiting, no event due and no saved trim handed over, a step changes nothing. -/
def Obligations.StepRunsFrontCommandOrIdles : Prop :=
  (∀ (s : State) (c : Instr) (rest : List Instr), s.pending = c :: rest → step s = exec c { s with pending := rest }) ∧
  (∀ s : State, s.pending = [] → s.dueEvents = [] → s.memory.trimToSave = none → step s = .next s)

/-- Every command answers a next state in every state, and leaves the queue of commands as it was. Both are the model's: that
no rule stops the part is DEDUCED (log entry 24; a request that is refused is answered with a status value, R190), and the
queue of commands is log entry 1's. -/
def Obligations.EveryCommandAnswersAndKeepsTheQueue : Prop :=
  ∀ (c : Instr) (s : State), ∃ t, exec c s = .next t ∧ t.pending = s.pending

/-- R160, R9, R10: in every step the target mode stays RUN exactly while the line mode is SEEK or TRACKING, and a mark
stays expected only then. -/
def Obligations.EveryStepKeepsModesAgree : Prop :=
  ∀ s t : State, s.modesAgree → step s = .next t → t.modesAgree

/-- R43, R67, R71, R72, R184: in every step F16, the settle count, the trim queue, the partial message and the scrub
position stay in their ranges. -/
def Obligations.EveryStepKeepsRanges : Prop :=
  ∀ s t : State, s.inRanges → step s = .next t → t.inRanges

/-- R149: in every step the delivery queue goes on mirroring the DELIVERED records, within the capacity. -/
def Obligations.EveryStepKeepsQueueMirrorsDelivered : Prop :=
  ∀ s t : State, s.queueMirrors → step s = .next t → t.queueMirrors

/-- The three invariants hold right after reset: in the state that a cold reset leaves on the image that log entry 8 chooses
(DESIGN CHOICE: the spec gives no image before the first write). -/
def Obligations.InvariantsHoldAfterReset : Prop :=
  State.reset.modesAgree ∧ State.reset.inRanges ∧ State.reset.queueMirrors

/-- R190, R185, R189: while PFAIL is asserted every request other than STATUS is answered ERR_POWER and has no other effect;
on a clean image a request that is not answered OK changes nothing but the port's response. In both cases the transfer of
its frame has shifted out the bytes the port held. -/
def Obligations.RequestNotTakenChangesOnlyTheResponse : Prop :=
  (∀ (c : Instr) (s : State), Instr.isRequest c = true → s.pfail = true →
     exec c s = .next { s.framed (Instr.payloadLength c) with port := .ready (responseFrame .errPower []) }) ∧
  (∀ (c : Instr) (s t : State), Instr.isRequest c = true → s.clean → exec c s = .next t →
     (∀ payload, t.port ≠ .ready (responseFrame .ok payload)) →
     t = { s.framed (Instr.payloadLength c) with port := t.port })

/-! ## Reads of records (R179, R181, R183, R185) -/

/-- R179: a read of a record whose words are all clean changes nothing. -/
def Obligations.ReadOfCleanRecordChangesNothing : Prop :=
  ∀ (s : State) (ref : RecordRef), (∀ f ∈ s.memory.flips, f.ref ≠ ref) → readRecord ref s = s

/-- R179, R185: a single-bit error in one word of a record is counted once and RECORD_CORRECTED raised; it is written
back, unless PFAIL is asserted. Nothing else changes. -/
def Obligations.SingleBitErrorIsCorrectedAndCounted : Prop :=
  ∀ (s : State) (f : Flip), s.memory.flips = [f] → f.word < f.ref.words → s.isDamaged f.ref = false →
    readRecord f.ref s =
      { s with
          memory := { s.memory with
            flips := if s.pfail then [f] else []
            corrected := satAdd s.memory.corrected 1 }
          attention := { s.attention with latched := s.attention.latched ||| Attention.recordCorrected.set } }

/-- R5, R179, R181 to R183, R164, R185: two flipped bits in one word mark the record damaged: RECORD_DAMAGED is raised, and
the damage rewrite is made, or the record put in the damaged set while PFAIL is asserted. A counter whose configuration is
damaged has its values made 0 and is off. With the geometry record T becomes 0, and a line in SEEK or TRACKING enters
DRAINING with target PARK, and PARKED at once when no row is open. The lanes that name a damaged job slot, and a lane whose
own record is damaged, lose their row origin and stop running unless JAMMED; that lane's OPEN stack is sealed with LANE_OFF,
unless PFAIL is asserted. A stack record becomes QUARANTINED with cause DAMAGED: one that was SEALED, HELD or in TRANSFER has
the BLOCKED lanes tested; one that was READY also has its lane's HELD record pushed, and the arbiter tested, unless PFAIL is
asserted; the queue entry of one that was DELIVERED becomes void. That a reverse event which is due, kept in the field
`reverseDue`, no longer occurs once the line has entered DRAINING is the model's (log entries 3 and 26). -/
def Obligations.DoubleErrorMarksRecordDamagedWithItsEffects : Prop :=
  (∀ (s : State) (c : CounterNo) (w b b' : Nat), b ≠ b' → s.memory.flips = [⟨.counter c, w, b⟩, ⟨.counter c, w, b'⟩] → w < 3 →
     s.isDamaged (.counter c) = false →
     readRecord (.counter c) s =
       { s with
           memory :=
             if s.pfail then { s.memory with damagedSet := .counter c :: s.memory.damagedSet }
             else
               { s.memory with
                 flips := []
                 counterRecs := vset s.memory.counterRecs c
                   { damaged := true, laneSet := 0, mask := 0, unit := .label, mode := .window, window := 0, threshold := 0,
                     action := .attn } }
           counters := vset s.counters c { s.counters[c] with working := 0, published := 0, rows := 0 }
           attention := { s.attention with latched := s.attention.latched ||| Attention.recordDamaged.set } } ∧
     (readRecord (.counter c) s).counterOff c = true) ∧
  (∀ (s : State) (w b b' : Nat), b ≠ b' → s.memory.flips = [⟨.geometry, w, b⟩, ⟨.geometry, w, b'⟩] → w < 16 →
     s.geometryDamaged = false → (s.modes.mode = .seek ∨ s.modes.mode = .tracking → s.ring.openCount ≠ 0) →
     readRecord .geometry s =
       { s with
           memory :=
             if s.pfail then { s.memory with damagedSet := .geometry :: s.memory.damagedSet }
             else
               { s.memory with
                 flips := []
                 geometry :=
                   { damaged := true
                     settings :=
                       { pNom := 0, wMark := 0, lossLimit := 0, dDie := 0, wDie := 0, oCut := 0, dGate := 0, lMin := 0,
                         lMax := 0, upstream := 0, lead := 0, trail := 0, rRev := 0, filterShift := 0, gain := 0,
                         slew := 0, lTrim := 0, tol := 0, wOut := 0, nSettle := 0, capacity := 0, watermark := 0,
                         shuttleTimeout := 0, jamLimit := 0, arbiter := .strict, inspection := .required,
                         verdictRate := .b115200, trimRate := .b115200 }
                     savedTrim := 0 } }
           register := { s.register with trim := 0 }
           attention := { s.attention with latched := s.attention.latched ||| Attention.recordDamaged.set }
           modes :=
             if s.modes.mode = .seek ∨ s.modes.mode = .tracking then { mode := .draining, target := .park } else s.modes
           position :=
             if s.modes.mode = .seek ∨ s.modes.mode = .tracking then
               { s.position with expectation := none, reverseDue := false }
             else s.position } ∧
     (readRecord .geometry s).geometryDamaged = true) ∧
  (∀ (s : State) (w b b' : Nat), b ≠ b' → s.memory.flips = [⟨.geometry, w, b⟩, ⟨.geometry, w, b'⟩] → w < 16 →
     s.geometryDamaged = false → s.modes.mode = .seek ∨ s.modes.mode = .tracking → s.ring.openCount = 0 →
     readRecord .geometry s =
       { s with
           memory := (s.markDamaged .geometry).memory
           register := { s.register with trim := 0 }
           attention := { s.attention with latched :=
             s.attention.latched ||| Attention.recordDamaged.set ||| Attention.modeReached.set }
           modes := { mode := .parked, target := .park }
           position := { s.position with expectation := none, reverseDue := false }
           lanes := vtab (fun l => { s.lanes[l] with gate := .waste }) }) ∧
  (∀ (s : State) (j : JobSlot) (w b b' : Nat), b ≠ b' → s.memory.flips = [⟨.job j, w, b⟩, ⟨.job j, w, b'⟩] → w < 8 →
     s.isDamaged (.job j) = false →
     readRecord (.job j) s =
       { s with
           memory :=
             if s.pfail then { s.memory with damagedSet := .job j :: s.memory.damagedSet }
             else { s.memory with flips := [], jobRecs := vset s.memory.jobRecs j (JobRecord.zero .damaged) }
           lanes := vtab (fun l =>
             if s.laneNames l j then
               { s.lanes[l] with rowOrigin := .none, run := if s.lanes[l].run = .jammed then .jammed else .off }
             else s.lanes[l])
           attention := { s.attention with latched := s.attention.latched ||| Attention.recordDamaged.set } }) ∧
  (∀ (s : State) (l : Lane) (w b b' : Nat), b ≠ b' → s.memory.flips = [⟨.lane l, w, b⟩, ⟨.lane l, w, b'⟩] → w < 2 →
     s.isDamaged (.lane l) = false →
     ∀ t : State,
       t =
         { s with
             memory :=
               if s.pfail then { s.memory with damagedSet := .lane l :: s.memory.damagedSet }
               else
                 { s.memory with
                   flips := []
                   laneRecs := vset s.memory.laneRecs l
                     { damaged := true, enabled := false, slot := none, origin := 0, priority := 0, weight := 0 } }
             lanes := vset s.lanes l
               { s.lanes[l] with rowOrigin := .none, run := if s.lanes[l].run = .jammed then .jammed else .off }
             attention := { s.attention with latched := s.attention.latched ||| Attention.recordDamaged.set } } →
       (s.pfail = true ∨ s.openOf l = none → readRecord (.lane l) s = t) ∧
       (∀ n, s.pfail = false → s.openOf l = some n →
         readRecord (.lane l) s =
           (t.setStack n { s.stack n with state := .sealed, sealReason := some .laneOff }).completeTest n)) ∧
  (∀ (s : State) (n : StackNo) (w b b' : Nat), b ≠ b' → s.memory.flips = [⟨.stack n, w, b⟩, ⟨.stack n, w, b'⟩] → w < 24 →
     s.isDamaged (.stack n) = false →
     ∀ t : State,
       t =
         { s with
             memory :=
               if s.pfail then { s.memory with damagedSet := .stack n :: s.memory.damagedSet }
               else
                 { s.memory with
                   flips := [], stackRecs := vset s.memory.stackRecs n (StackRecord.zero (.quarantined .damaged)) }
             attention := { s.attention with latched := s.attention.latched ||| Attention.recordDamaged.set } } →
       t.stack n = StackRecord.zero (.quarantined .damaged) ∧
       ((s.stack n).state = .free ∨ (s.stack n).state = .opened ∨ (s.stack n).state = .quarantined .transfer →
         readRecord (.stack n) s = t) ∧
       ((s.stack n).state = .sealed ∨ (s.stack n).state = .held ∨ (s.stack n).state = .transfer →
         readRecord (.stack n) s = t.unblockLanes) ∧
       ((s.stack n).state = .delivered →
         readRecord (.stack n) s =
           { t with queue := { s.queue with entries := s.queue.entries.map (fun e => if e = some n then none else e) } }) ∧
       ((s.stack n).state = .ready → s.pfail = true → readRecord (.stack n) s = t.unblockLanes) ∧
       (∀ l : Lane, (s.stack n).state = .ready → s.pfail = false → (s.stack n).lane = l.val + 1 →
         (t.heldOf l = none ∨ t.readyOf l ≠ none → readRecord (.stack n) s = t.unblockLanes.grant) ∧
         (∀ m, t.heldOf l = some m → t.readyOf l = none →
           readRecord (.stack n) s =
             (State.unblockLanes
               { t.setStack m { t.stack m with state := .ready } with outputs := .push l :: s.outputs }).grant)))

/-! ## Web position and marks (R1 to R18) -/

/-- R1, R3, R5: what one transition of the encoder does. A forward count past high-water advances high-water and arms the
reverse detector; a backward count leaves high-water; an invalid transition is only counted. The check of R5 that follows
each count notes whether the reverse event's conditions hold. That the field `advanced` says whether the last count set
high-water (log entry 4), that an event due and not yet taken is taken before the next transition, one after the other, as
its own command takes it, and that of several the next is left open (log entry 3), is the model's choice. -/
def Obligations.EncoderTransitionCountsAndMovesHighWater : Prop :=
  (∀ s : State, s.dueEvents = [] →
    (posPast (s.position.position + 1) s.position.highWater →
      exec (.encoderTransition .forward) s = .next
        { s with position := { s.position with
            position := s.position.position + 1
            highWater := s.position.position + 1
            reverseArm := true
            reverseDue := false
            advanced := true } }) ∧
    (¬posPast (s.position.position + 1) s.position.highWater →
      exec (.encoderTransition .forward) s = .next
        { s with position := { s.position with
            position := s.position.position + 1
            advanced := false
            reverseDue := decide (s.position.reverseArm = true ∧ (s.modes.mode = .seek ∨ s.modes.mode = .tracking) ∧
              (s.work.rRev : Int) < posDiff s.position.highWater (s.position.position + 1)) } }) ∧
    exec (.encoderTransition .backward) s = .next
      { s with position := { s.position with
          position := s.position.position - 1
          advanced := false
          reverseDue := decide (s.position.reverseArm = true ∧ (s.modes.mode = .seek ∨ s.modes.mode = .tracking) ∧
            (s.work.rRev : Int) < posDiff s.position.highWater (s.position.position - 1)) } } ∧
    exec (.encoderTransition .invalid) s = .next
      { s with position := { s.position with encoderErrors := satInc s.position.encoderErrors } }) ∧
  (∀ (s : State) (e : EncoderStep) (k : Nat), k ≤ 512 → (takeDueTimes k s).dueEvents = [] →
    exec (.encoderTransition e) s = exec (.encoderTransition e) (takeDueTimes k s)) ∧
  (∀ (s : State) (d : DueEvent), s.dueEvents = [d] → exec d.command s = .next s.takeOneDue) ∧
  (∀ s : State, 2 ≤ s.dueEvents.length →
    ∃ d ∈ s.dueEvents, exec d.command { s with freeCount := s.freeCount + 1 } = .next s.takeOneDue)

/-- R20, R10, R4, R11, R14: a mark that opens no row increments exactly one count and changes nothing else: the idle
count in PARKED and DRAINING; below high-water the back count; outside its window, or too close to the spacing
reference, the early count. -/
def Obligations.MarkNotAcceptedIncrementsOneCount : Prop :=
  ∀ s : State,
    (s.modes.mode = .parked ∨ s.modes.mode = .draining →
      exec .mark s = .next { s with position := { s.position with idleMarks := satInc s.position.idleMarks } }) ∧
    (s.modes.mode = .seek ∨ s.modes.mode = .tracking → posBefore s.position.position s.position.highWater →
      exec .mark s = .next { s with position := { s.position with backMarks := satInc s.position.backMarks } }) ∧
    (s.modes.mode = .seek ∨ s.modes.mode = .tracking → ¬posBefore s.position.position s.position.highWater →
      ∀ x, s.position.expectation = some x →
        ¬posWithin s.position.position (posAdd x (-(s.work.wMark : Int))) (posAdd x s.work.wMark) →
        exec .mark s = .next { s with position := { s.position with earlyMarks := satInc s.position.earlyMarks } }) ∧
    (s.modes.mode = .seek → ¬posBefore s.position.position s.position.highWater → s.position.expectation = none →
      ∀ m, s.position.spacing = some m → posDiff s.position.position m < (s.work.pNom : Int) - s.work.wMark →
        exec .mark s = .next { s with position := { s.position with earlyMarks := satInc s.position.earlyMarks } })

/-- R11, R14, R16: a mark within the window of X, or one far enough past the spacing reference while UNSYNCED, opens a
row at its position; the count of synthetic rows is cleared and X becomes one repeat on. -/
def Obligations.AcceptedMarkOpensRowAndResyncs : Prop :=
  ∀ s : State, s.clean → ¬posBefore s.position.position s.position.highWater →
    (s.modes.mode = .seek ∨ s.modes.mode = .tracking →
      ∀ x, s.position.expectation = some x →
        posWithin s.position.position (posAdd x (-(s.work.wMark : Int))) (posAdd x s.work.wMark) →
        exec .mark s = .next
          (State.withRowOpened
            { s with position := { s.position with
                consecutiveSynthetic := 0, expectation := some (posAdd s.position.position s.work.pNom) } }
            .window s.position.position)) ∧
    (s.modes.mode = .seek → s.position.expectation = none →
      (∀ m, s.position.spacing = some m → (s.work.pNom : Int) - s.work.wMark ≤ posDiff s.position.position m) →
        exec .mark s = .next
          (State.withRowOpened
            { s with position := { s.position with
                consecutiveSynthetic := 0, expectation := some (posAdd s.position.position s.work.pNom) } }
            .acquisition s.position.position))

/-- R16, R17, R23 to R25, R15, R184: a row opened at `m` takes the next row number and its slot, in phase OPEN, with E,
its origin, MARKLOST for a synthetic row, SETTLING in SEEK and SPLICE over the zone; the other slots keep their
records, `m` becomes the spacing reference and the scrub position advances. -/
def Obligations.OpenedRowTakesNextNumberAndSlot : Prop :=
  ∀ (s : State) (how : Opening) (m : Pos), s.clean →
    (s.openRow how m).ring.next = s.ring.next + 1 ∧
    (s.openRow how m).ring.openCount = s.ring.openCount + 1 ∧
    (∃ r, (s.openRow how m).rowAt (ringSlot s.ring.next) = some r ∧ r.number = s.ring.next ∧ r.mark = m ∧
      r.expected = posAdd m (s.work.dDie + s.work.oCut) ∧ r.phase = .opened ∧ r.dieIndex = none ∧ r.rawError = none ∧
      r.origin = (if how = .synthetic then .synthetic else .mark) ∧
      r.flags =
        { splice := s.position.zone.any (fun z =>
            decide (posBefore z.1 (posAdd m s.work.pNom) ∧ posBefore m z.2))
          misreg := false, miscut := false, marklost := decide (how = .synthetic)
          settling := decide (s.modes.mode = .seek), reverse := false, trimLimit := false, trimHeld := false }) ∧
    (∀ i, i ≠ ringSlot s.ring.next → (s.openRow how m).rowAt i = s.rowAt i) ∧
    (s.openRow how m).position.spacing = some m ∧
    (s.openRow how m).memory = { s.memory with scrub := (s.memory.scrub + 1) % 97 } ∧
    (s.openRow how m).verdict = s.verdict ∧ (s.openRow how m).queue = s.queue ∧
    (s.openRow how m).shuttle = s.shuttle ∧ (s.openRow how m).counters = s.counters ∧
    (s.openRow how m).work = s.work ∧ (s.openRow how m).pfail = s.pfail ∧ (s.openRow how m).port = s.port ∧
    (s.openRow how m).outputs = s.outputs ∧ (s.openRow how m).backLandings = s.backLandings

/-- R27, R108, R112: the entry of a lane in a row being opened. It names a slot exactly when the lane is enabled, not
OFF, its slot ACTIVE and, for a serialized job, its row origin not NONE; verdict, reject, disposition and landing start
empty; the serial follows the origin by the steps since the row origin, which becomes this row when it was PENDING. -/
def Obligations.LaneEntryAtOpeningFollowsLaneAndJob : Prop :=
  ∀ (s : State) (how : Opening) (m : Pos) (l : Lane), s.clean →
    ∃ r, (s.openRow how m).rowAt (ringSlot s.ring.next) = some r ∧
      r.lanes[l].camera = .pending ∧ r.lanes[l].manual = false ∧ r.lanes[l].disposition = .undecided ∧
      r.lanes[l].landing = .none ∧
      (∀ j, r.lanes[l].snapshot = some j ↔
        (s.laneRec l).enabled = true ∧ s.lanes[l].run ≠ .off ∧ (s.laneRec l).slot = some j ∧ (s.job j).state = .active ∧
          ((s.job j).serialized = true → s.lanes[l].rowOrigin ≠ .none)) ∧
      (∀ j, r.lanes[l].snapshot = some j → (s.job j).serialized = true →
        (∀ r0, s.lanes[l].rowOrigin = .row r0 →
          r.lanes[l].serial = some (match (s.job j).serialMode with
            | .down => (((s.laneRec l).origin - (s.job j).step * (s.ring.next - r0).toNat : Int) % 100000000).toNat
            | _ => (((s.laneRec l).origin + (s.job j).step * (s.ring.next - r0).toNat : Int) % 100000000).toNat) ∧
          (s.openRow how m).lanes[l].rowOrigin = .row r0) ∧
        (s.lanes[l].rowOrigin = .pending →
          r.lanes[l].serial = some ((s.laneRec l).origin % 100000000) ∧
          (s.openRow how m).lanes[l].rowOrigin = .row s.ring.next)) ∧
      ((∀ j, r.lanes[l].snapshot = some j → (s.job j).serialized = false) → r.lanes[l].serial = none ∧
        (s.openRow how m).lanes[l].rowOrigin = s.lanes[l].rowOrigin) ∧
      (s.openRow how m).lanes[l] = { s.lanes[l] with rowOrigin := (s.openRow how m).lanes[l].rowOrigin }

/-- R3, R12, R13, R15: passing X + W_mark while SYNCED, at the up-count that sets high-water one past it, opens a synthetic
row at X and moves X one repeat on; when the count of synthetic rows thereby stands at the loss limit, the expectation
becomes UNSYNCED, the settle count 0, and a line in TRACKING falls to SEEK with TRACKING_LOST. When no synthetic-mark point
is due the command changes nothing. -/
def Obligations.SyntheticMarkOpensRowAtExpectation : Prop :=
  (∀ (s : State) (x : Pos), s.clean → s.modes.mode = .seek ∨ s.modes.mode = .tracking →
    s.position.expectation = some x → s.position.advanced = true →
    s.position.highWater = posAdd (posAdd x s.work.wMark) 1 →
    exec .syntheticMark s = .next
      ((State.withRowOpened
          { s with position := { s.position with
              expectation := some (posAdd x s.work.pNom)
              consecutiveSynthetic := satInc s.position.consecutiveSynthetic
              syntheticRows := satInc s.position.syntheticRows } }
          .synthetic x).lossTest)) ∧
  (∀ s : State, (s.modes.mode = .parked ∨ s.modes.mode = .draining ∨ s.position.expectation = none ∨
      s.position.advanced = false ∨
      ∃ x, s.position.expectation = some x ∧ s.position.highWater ≠ posAdd (posAdd x s.work.wMark) 1) →
    exec .syntheticMark s = .next s)

/-- R13, R73, R162: at the loss limit the expectation becomes UNSYNCED and the settle count 0; a line in TRACKING falls
to SEEK and TRACKING_LOST is raised. In SEEK with the settle count at N_settle the line rises to TRACKING and
MODE_REACHED is raised. Otherwise neither command changes anything. -/
def Obligations.LossLimitFallsToSeekAndSettleCountRises : Prop :=
  (∀ s : State,
     (s.position.expectation ≠ none → s.work.lossLimit ≤ s.position.consecutiveSynthetic.toNat →
       (s.modes.mode = .tracking →
         exec .lossLimit s = .next
           { s with
               position := { s.position with expectation := none }
               register := { s.register with settle := 0 }
               modes := { s.modes with mode := .seek }
               attention := { s.attention with latched := s.attention.latched ||| Attention.trackingLost.set } }) ∧
       (s.modes.mode = .seek →
         exec .lossLimit s = .next
           { s with
               position := { s.position with expectation := none }
               register := { s.register with settle := 0 } })) ∧
     (s.position.expectation = none ∨ s.position.consecutiveSynthetic.toNat < s.work.lossLimit ∨
         s.modes.mode = .parked ∨ s.modes.mode = .draining →
       exec .lossLimit s = .next s)) ∧
  (∀ s : State,
     (s.modes.mode = .seek → s.work.nSettle ≤ s.register.settle →
       exec .riseToTracking s = .next
         { s with
             modes := { s.modes with mode := .tracking }
             attention := { s.attention with latched := s.attention.latched ||| Attention.modeReached.set } }) ∧
     (s.modes.mode ≠ .seek ∨ s.register.settle < s.work.nSettle → exec .riseToTracking s = .next s))

/-- R5: the reverse event disarms the detector, is counted, flags every row not DECIDED with REVERSE, makes the
expectation UNSYNCED, sets the settle count to 0, drops TRACKING to SEEK and raises TRACKING_LOST. When it is not due
nothing happens. That the event is due once the check after the last count has found R5's three conditions, waits in the
field `reverseDue` until it is taken, and no longer occurs in DRAINING, is the model's (log entries 3 and 26). -/
def Obligations.ReverseEventFlagsUndecidedRows : Prop :=
  ∀ s : State,
    (s.position.reverseDue = true → s.modes.mode = .seek ∨ s.modes.mode = .tracking →
      ∃ t, exec .reverseEvent s = .next t ∧
        (∀ i r, s.rowAt i = some r →
          t.rowAt i = some (if r.phase = .opened ∨ r.phase = .cut then { r with flags := { r.flags with reverse := true } }
            else r)) ∧
        (∀ i, s.rowAt i = none → t.rowAt i = none) ∧
        t =
          { s with
              ring := { s.ring with slots := t.ring.slots }
              position := { s.position with
                reverseArm := false, reverseDue := false, reverses := satInc s.position.reverses, expectation := none }
              register := { s.register with settle := 0 }
              modes := { s.modes with mode := .seek }
              attention := { s.attention with latched := s.attention.latched ||| Attention.trackingLost.set } }) ∧
    (s.position.reverseDue = false ∨ s.modes.mode = .parked ∨ s.modes.mode = .draining →
      exec .reverseEvent s = .next s)

/-- R3, R6, R7, R8, R15: a splice pulse is counted in every line mode; its span forms the zone or widens it to the earlier
start and the later end; every row not DECIDED whose repeat overlaps the zone receives SPLICE. The zone is dropped when
the web reaches its end plus 2^30, and the spacing reference when it reaches the reference plus 2^30, each at the up-count
that sets high-water there; at any other count these expiries change nothing. -/
def Obligations.SpliceFormsOrWidensZoneUntilExpiry : Prop :=
  (∀ (s : State) (a b : Pos),
     a = posAdd (posAdd s.position.position s.work.upstream) (-(s.work.lead : Int)) →
     b = posAdd (posAdd s.position.position s.work.upstream) s.work.trail →
     ∀ zone : Pos × Pos,
       (s.position.zone = none → zone = (a, b)) →
       (∀ z, s.position.zone = some z →
         zone = (if posBefore a z.1 then a else z.1, if posPast b z.2 then b else z.2)) →
       ∃ t, exec .splice s = .next t ∧
         (∀ i r, s.rowAt i = some r →
           t.rowAt i = some
             (if (r.phase = .opened ∨ r.phase = .cut) ∧ posBefore zone.1 (posAdd r.mark s.work.pNom) ∧
                 posBefore r.mark zone.2 then
               { r with flags := { r.flags with splice := true } }
             else r)) ∧
         (∀ i, s.rowAt i = none → t.rowAt i = none) ∧
         t =
           { s with
               ring := { s.ring with slots := t.ring.slots }
               position := { s.position with splices := satInc s.position.splices, zone := some zone } }) ∧
  (∀ s : State,
     (∀ a b, s.position.zone = some (a, b) → s.position.advanced = true → s.position.highWater = posAdd b 1073741824 →
       exec .spliceZoneExpiry s = .next { s with position := { s.position with zone := none } }) ∧
     (s.position.advanced = false ∨
         (∀ a b, s.position.zone = some (a, b) → s.position.highWater ≠ posAdd b 1073741824) →
       exec .spliceZoneExpiry s = .next s) ∧
     (∀ m, s.position.spacing = some m → s.position.advanced = true → s.position.highWater = posAdd m 1073741824 →
       exec .spacingReferenceExpiry s = .next { s with position := { s.position with spacing := none } }) ∧
     (s.position.advanced = false ∨
         (∀ m, s.position.spacing = some m → s.position.highWater ≠ posAdd m 1073741824) →
       exec .spacingReferenceExpiry s = .next s))

/-! ## Die register control (R64 to R71) -/

/-- R64, R65, R67 to R70: a die index pulse below high-water, or at high-water in the window of no row in phase OPEN,
is only counted. Otherwise it is associated with the oldest row in phase OPEN whose window holds it. The row takes the
position and the raw error e, passes to CUT, and receives MISREG beyond tol, TRIM_HELD for an outlier and TRIM_LIMIT
when T − c lies outside ±L_trim. F16 and T move by one sample unless e is an outlier. The row's trim message is queued. -/
def Obligations.DieIndexIsAssociatedWithOldestOpenWindow : Prop :=
  (∀ s : State,
     (posBefore s.position.position s.position.highWater →
       exec .dieIndex s = .next { s with register := { s.register with backIndex := satInc s.register.backIndex } }) ∧
     (¬posBefore s.position.position s.position.highWater →
       s.noOpen (fun r => r.phase = .opened ∧ (posDiff s.position.position r.expected).natAbs ≤ s.work.wDie) →
       exec .dieIndex s = .next { s with register := { s.register with strayIndex := satInc s.register.strayIndex } })) ∧
  (∀ (s : State) (i : RingSlot) (r : RowRecord) (e f c : Int),
     ¬posBefore s.position.position s.position.highWater →
     s.firstOpen (fun q => q.phase = .opened ∧ (posDiff s.position.position q.expected).natAbs ≤ s.work.wDie) i r →
     e = max (-32767) (min 32767 (posDiff s.position.position r.expected)) →
     f = filterNext s.register.f16 e s.work.filterShift →
     c = correctionOf f s.work.gain s.work.slew →
     ∀ row : RowRecord,
       row =
         { r with
             dieIndex := some s.position.position
             rawError := some e
             phase := .cut
             flags :=
               { r.flags with
                   misreg := r.flags.misreg || decide (s.work.tol < e.natAbs)
                   trimLimit := r.flags.trimLimit || decide (e.natAbs ≤ s.work.wOut ∧
                     (s.register.trim - c < -(s.work.lTrim : Int) ∨ (s.work.lTrim : Int) < s.register.trim - c))
                   trimHeld := r.flags.trimHeld || decide (s.work.wOut < e.natAbs) } } →
       ∀ trim : Int,
         trim = (if s.work.wOut < e.natAbs then s.register.trim
           else max (-(s.work.lTrim : Int)) (min s.work.lTrim (s.register.trim - c))) →
         exec .dieIndex s = .next
           (State.queueTrim
             { s with
                 ring := { s.ring with slots := vset s.ring.slots i (some row) }
                 register := { s.register with
                   f16 := if s.work.wOut < e.natAbs then s.register.f16 else f
                   trim := trim
                   outliers := if s.work.wOut < e.natAbs then satInc s.register.outliers else s.register.outliers }
                 attention :=
                   if e.natAbs ≤ s.work.wOut ∧
                       (s.register.trim - c < -(s.work.lTrim : Int) ∨ (s.work.lTrim : Int) < s.register.trim - c) then
                     { s.attention with latched := s.attention.latched ||| Attention.trimSaturated.set }
                   else s.attention }
             { tag := row.number.setWidth 8, trim := trim, held := row.flags.trimHeld, limit := row.flags.trimLimit,
               misreg := row.flags.misreg, miscut := row.flags.miscut, settling := row.flags.settling }))

/-- R67, R68: the step of F16 is d = 16e − F16 divided by 2^k, rounded to the nearest with ties away from zero, so that
F16 moves toward 16e and never past it; the correction stays within ±S. -/
def Obligations.RegisterLoopRoundsAndNeverOvershoots : Prop :=
  (∀ (f16 e : Int) (k : Nat),
    (0 ≤ 16 * e - f16 → filterNext f16 e k = f16 + (((16 * e - f16).toNat + 2 ^ k / 2) / 2 ^ k : Nat) ∧
      f16 ≤ filterNext f16 e k ∧ filterNext f16 e k ≤ 16 * e) ∧
    (16 * e - f16 < 0 → filterNext f16 e k = f16 - (((f16 - 16 * e).toNat + 2 ^ k / 2) / 2 ^ k : Nat) ∧
      16 * e ≤ filterNext f16 e k ∧ filterNext f16 e k ≤ f16) ∧
    filterNext f16 e 0 = 16 * e) ∧
  (∀ (f16 : Int) (gain slew : Nat),
    -(slew : Int) ≤ correctionOf f16 gain slew ∧ correctionOf f16 gain slew ≤ slew ∧
    (0 ≤ f16 → correctionOf f16 gain slew = min (slew : Int) (((f16.toNat * gain + 128) / 256 : Nat) : Int)) ∧
    (f16 < 0 → correctionOf f16 gain slew = max (-(slew : Int)) (-((((-f16).toNat * gain + 128) / 256 : Nat) : Int))))

/-- R3, R66, R69, R70: when the web passes the die window end of a row in phase OPEN, at the up-count that sets high-water
one past it, the row receives MISCUT and TRIM_HELD and passes to CUT, the missed cut is counted, F16 and T stay, and the
row's trim message is queued. With no such row the command changes nothing: no high-water that the web has not just
advanced to passes a window end, and none at which a row's own mark stands. The last is how the model tells a window end
that lay behind when its row was opened (log entry 4); that of several such rows the oldest is taken is its choice (log
entry 35). -/
def Obligations.DieWindowEndMissesTheCut : Prop :=
  (∀ (s : State) (i : RingSlot) (r : RowRecord),
    s.firstOpen (fun q => q.phase = .opened ∧ s.position.advanced = true ∧ s.position.highWater ≠ q.mark ∧
      s.position.highWater = posAdd (posAdd q.expected s.work.wDie) 1) i r →
    exec .dieWindowEnd s = .next
      (State.queueTrim
        { s with
            ring := { s.ring with
              slots := vset s.ring.slots i
                (some { r with phase := .cut, flags := { r.flags with miscut := true, trimHeld := true } }) }
            register := { s.register with missedCuts := satInc s.register.missedCuts } }
        { tag := r.number.setWidth 8, trim := s.register.trim, held := true, limit := r.flags.trimLimit,
          misreg := r.flags.misreg, miscut := true, settling := r.flags.settling })) ∧
  (∀ s : State,
    s.noOpen (fun q => q.phase = .opened ∧ s.position.advanced = true ∧ s.position.highWater ≠ q.mark ∧
      s.position.highWater = posAdd (posAdd q.expected s.work.wDie) 1) →
    exec .dieWindowEnd s = .next s)

/-- R70, R71, R196: the trim transmitter. A message queued in IDLE is begun at once, at the trim-link rate of the working
copy; in SENDING it waits, and when four wait the oldest is discarded and counted as an overrun. At the idle gap after a
message its six bytes are out, at the rate it began with, and the oldest waiting message is begun, or the transmitter enters
IDLE. The bytes are the sync value 0x3C, the tag, T as a signed 16-bit number, the five flags in bits 0 to 4, and the check
byte over these five. That the bytes are put down at the message's end is the model's choice (log entry 14). -/
def Obligations.TrimTransmitterSendsInOrder : Prop :=
  (∀ s : State,
    (s.register.sending = none → exec .trimMessageSent s = .next s) ∧
    (∀ now rate, s.register.sending = some (now, rate) →
      (s.register.waiting = [] →
        exec .trimMessageSent s = .next
          { s with
              register := { s.register with sending := none }
              outputs := .trim (trimBytes now) rate :: s.outputs }) ∧
      (∀ m ms, s.register.waiting = m :: ms →
        exec .trimMessageSent s = .next
          { s with
              register := { s.register with waiting := ms, sending := some (m, s.work.trimRate) }
              outputs := .trim (trimBytes now) rate :: s.outputs })) ∧
    ∀ m : TrimMessage,
      (s.register.sending = none →
        s.queueTrim m = { s with register := { s.register with sending := some (m, s.work.trimRate) } }) ∧
      (∀ now, s.register.sending = some now → s.register.waiting.length < 4 →
        s.queueTrim m = { s with register := { s.register with waiting := s.register.waiting ++ [m] } }) ∧
      (∀ now, s.register.sending = some now → 4 ≤ s.register.waiting.length →
        s.queueTrim m =
          { s with register := { s.register with
              waiting := s.register.waiting.tail ++ [m], overruns := satInc s.register.overruns } })) ∧
  ∀ m : TrimMessage, ∃ high low flags : Byte,
    trimBytes m = [0x3C, m.tag, high, low, flags, crc8 [0x3C, m.tag, high, low, flags]] ∧
    ((256 * high.toNat + low.toNat : Nat) : Int) = m.trim % 65536 ∧
    ∀ b, flags.getLsbD b = [m.held, m.limit, m.misreg, m.miscut, m.settling].getD b false

/-! ## Inspection verdicts (R43 to R51, R54, R55, R58) -/

/-- R43: a character is discarded in HUNT, begins a candidate in IDLE and joins it in RECEIVING; the first six
characters are kept, every one is counted up to the counter's end, and a framing error spoils the candidate. -/
def Obligations.VerdictCharacterJoinsTheCandidate : Prop :=
  ∀ (s : State) (c : Option Byte),
    (s.verdict.state = .hunt → exec (.verdictCharacter c) s = .next s) ∧
    (s.verdict.state = .idle →
      exec (.verdictCharacter c) s = .next
        { s with verdict := { s.verdict with state := .receiving, kept := [c], count := 1, spoiled := c.isNone } }) ∧
    (s.verdict.state = .receiving →
      exec (.verdictCharacter c) s = .next
        { s with verdict := { s.verdict with
            count := if s.verdict.count = 255 then 255 else s.verdict.count + 1
            kept := if s.verdict.kept.length < 6 then s.verdict.kept ++ [c] else s.verdict.kept
            spoiled := s.verdict.spoiled || c.isNone } })

/-- R43, R44, R57: an idle gap takes HUNT to IDLE and leaves IDLE as it is; in RECEIVING a candidate that is not
exactly six sound characters from 0xC3 to a correct check byte is counted MALFORMED, raises VERDICT_FAULT and is
dropped. -/
def Obligations.IdleGapDropsMalformedCandidate : Prop :=
  ∀ s : State,
    (s.verdict.state = .hunt → exec .idleGap s = .next { s with verdict := { s.verdict with state := .idle } }) ∧
    (s.verdict.state = .idle → exec .idleGap s = .next s) ∧
    (s.verdict.state = .receiving →
      ¬(s.verdict.count = 6 ∧ s.verdict.spoiled = false ∧ ∃ tag b2 b3 b4 : Byte,
          s.verdict.kept = [some 0xC3, some tag, some b2, some b3, some b4, some (crc8 [0xC3, tag, b2, b3, b4])]) →
      exec .idleGap s = .next
        { s with
            verdict := { s.verdict with
              state := .idle, kept := [], count := 0, spoiled := false, malformed := satInc s.verdict.malformed }
            attention := { s.attention with latched := s.attention.latched ||| Attention.verdictFault.set } })

/-- R45 to R48, R51, R57, R196: an accepted message whose tag resolves to an undecided open row is merged, each lane's
verdict raised to the code of higher rank; one whose tag resolves to a retired row or to no row is UNKNOWN and raises
VERDICT_FAULT. The codes of lanes 1 to 4 stand in byte 2, of lanes 5 to 8 in byte 3 and of lanes 9 to 12 in byte 4, two bits
each, that of the lowest-numbered lane of a byte in bits 1–0. -/
def Obligations.IdleGapMergesOrDeclaresUnknown : Prop :=
  (∀ (b2 b3 b4 byte : Byte) (l : Lane),
    (l.val < 4 → byte = b2) → (4 ≤ l.val → l.val < 8 → byte = b3) → (8 ≤ l.val → byte = b4) →
    (laneCode [b2, b3, b4] l).getLsbD 0 = byte.getLsbD (2 * (l.val % 4)) ∧
    (laneCode [b2, b3, b4] l).getLsbD 1 = byte.getLsbD (2 * (l.val % 4) + 1)) ∧
  [Camera.pending, .good, .print, .blank].map Camera.code = [0, 1, 2, 3] ∧
  ∀ (s : State) (tag b2 b3 b4 : Byte), s.verdict.state = .receiving → s.verdict.count = 6 → s.verdict.spoiled = false →
    s.verdict.kept = [some 0xC3, some tag, some b2, some b3, some b4, some (crc8 [0xC3, tag, b2, b3, b4])] →
    (∀ r, s.rowAt (Fin.ofNat 128 tag.toNat) = some r → r.number.setWidth 8 = tag → r.phase = .opened ∨ r.phase = .cut →
      ∃ q : RowRecord,
        exec .idleGap s = .next
          { s with
              verdict := { s.verdict with
                state := .idle, kept := [], count := 0, spoiled := false, merged := satInc s.verdict.merged }
              ring := { s.ring with slots := vset s.ring.slots (Fin.ofNat 128 tag.toNat) (some q) } } ∧
        q = { r with lanes := q.lanes } ∧
        ∀ l : Lane, q.lanes[l] = { r.lanes[l] with camera := q.lanes[l].camera } ∧
          q.lanes[l].camera.code = max r.lanes[l].camera.code (laneCode [b2, b3, b4] l).toNat) ∧
    ((∀ r, s.rowAt (Fin.ofNat 128 tag.toNat) = some r → r.number.setWidth 8 = tag → r.phase = .retired) →
      exec .idleGap s = .next
        { s with
            verdict := { s.verdict with
              state := .idle, kept := [], count := 0, spoiled := false, unknown := satInc s.verdict.unknown }
            attention := { s.attention with latched := s.attention.latched ||| Attention.verdictFault.set } })

/-- R49, R50, R57, R58: an accepted message for a DECIDED row is LATE: it is counted and raises VERDICT_FAULT, and the
row is left as it is. On a sound part, each stack that a lane of the row with a reject code was gated to is marked,
when it is in a state that R50 names and stands in that lane; while PFAIL is asserted none is. -/
def Obligations.LateMessageMarksRejectedStacks : Prop :=
  ∀ (s : State) (tag b2 b3 b4 : Byte) (r : RowRecord), s.verdict.state = .receiving → s.verdict.count = 6 →
    s.verdict.spoiled = false →
    s.verdict.kept = [some 0xC3, some tag, some b2, some b3, some b4, some (crc8 [0xC3, tag, b2, b3, b4])] →
    s.rowAt (Fin.ofNat 128 tag.toNat) = some r → r.number.setWidth 8 = tag → r.phase = .decided →
    s.clean → s.memory.damagedSet = [] →
    ∃ recs : Vector StackRecord 64,
      exec .idleGap s = .next
        { s with
            verdict := { s.verdict with
              state := .idle, kept := [], count := 0, spoiled := false, late := satInc s.verdict.late }
            attention := { s.attention with latched := s.attention.latched ||| Attention.verdictFault.set }
            memory := { s.memory with stackRecs := recs } } ∧
      ∀ n : StackNo,
        ((s.pfail = false ∧ (s.memory.stackRecs[n].state ≠ .free ∧ s.memory.stackRecs[n].state ≠ .quarantined .damaged) ∧
            ∃ l : Lane, r.lanes[l].disposition = .stack n ∧ 2 ≤ (laneCode [b2, b3, b4] l).toNat ∧
              s.memory.stackRecs[n].lane = l.val + 1) →
          recs[n] = { s.memory.stackRecs[n] with
            flags := { s.memory.stackRecs[n].flags with lateReject := true }
            lateRejects := satInc s.memory.stackRecs[n].lateRejects }) ∧
        (¬(s.pfail = false ∧ (s.memory.stackRecs[n].state ≠ .free ∧ s.memory.stackRecs[n].state ≠ .quarantined .damaged) ∧
            ∃ l : Lane, r.lanes[l].disposition = .stack n ∧ 2 ≤ (laneCode [b2, b3, b4] l).toNat ∧
              s.memory.stackRecs[n].lane = l.val + 1) →
          recs[n] = s.memory.stackRecs[n])

/-- R54, R55: ROW REJECT sets the manual reject flag of the lanes named in an undecided open row and answers the row
number and the set of all flags; it is refused with ERR_ARG for a set that names no lane, has a bit beyond the twelve,
or a tag that resolves to no open row, and with ERR_STATE for a DECIDED row. -/
def Obligations.RowRejectSetsManualFlags : Prop :=
  ∀ (s : State) (tag : Byte) (lanes : BitVec 16), s.pfail = false →
    (lanes = 0 ∨ lanes &&& 0xF000 ≠ 0 ∨
        (∀ r, s.rowAt (Fin.ofNat 128 tag.toNat) = some r → r.number.setWidth 8 = tag → r.phase = .retired) →
      exec (.rowReject tag lanes) s = .next { s.framed 3 with port := .ready (responseFrame .errArg []) }) ∧
    (lanes ≠ 0 → lanes &&& 0xF000 = 0 →
      ∀ r, s.rowAt (Fin.ofNat 128 tag.toNat) = some r → r.number.setWidth 8 = tag →
        (r.phase = .decided →
          exec (.rowReject tag lanes) s = .next { s.framed 3 with port := .ready (responseFrame .errState []) }) ∧
        (r.phase = .opened ∨ r.phase = .cut →
          ∃ q : RowRecord,
            exec (.rowReject tag lanes) s = .next
              { s.framed 3 with
                  ring := { s.ring with slots := vset s.ring.slots (Fin.ofNat 128 tag.toNat) (some q) }
                  port := .ready (responseFrame .ok
                    (beBytes 4 r.number.toNat ++ beBytes 2 (laneSetOf (fun l => q.lanes[l].manual)))) } ∧
            q = { r with lanes := q.lanes } ∧
            ∀ l : Lane, q.lanes[l] = { r.lanes[l] with manual := r.lanes[l].manual || lanes.getLsbD l.val }))

/-! ## The gate decision (R78 to R89) -/

/-- R3, R30, R31, R78: when the web reaches the gate point of a row that is not DECIDED, outside PARKED, at the up-
count that sets high-water there, the row's cut is missed if it is still OPEN, and the lanes are decided in ascending
order; then the row is DECIDED, the gate lines follow the dispositions (held at WASTE while PFAIL is asserted), the
counters take the row and finished rows retire. In PARKED, or with no gate point reached, the command changes nothing.
That of several such rows the oldest would be taken is the model's choice (log entry 35). -/
def Obligations.GatePointDecidesTheRowReached : Prop :=
  (∀ s : State, (s.modes.mode = .parked ∨
      s.noOpen (fun q => (q.phase = .opened ∨ q.phase = .cut) ∧ s.position.advanced = true ∧
        s.position.highWater = posAdd q.mark s.work.dGate)) →
    exec .gatePoint s = .next s) ∧
  (∀ (s : State) (i : RingSlot) (r : RowRecord), s.modes.mode ≠ .parked →
    s.firstOpen (fun q => (q.phase = .opened ∨ q.phase = .cut) ∧ s.position.advanced = true ∧
      s.position.highWater = posAdd q.mark s.work.dGate) i r →
    (r.phase = .cut →
      exec .gatePoint s = .next (((List.finRange 12).foldl (State.decideLane i) s).closeDecision i)) ∧
    (r.phase = .opened →
      exec .gatePoint s = .next
        (((List.finRange 12).foldl (State.decideLane i)
          (State.queueTrim
            { s with
                ring := { s.ring with
                  slots := vset s.ring.slots i
                    (some { r with phase := .cut, flags := { r.flags with miscut := true, trimHeld := true } }) }
                register := { s.register with missedCuts := satInc s.register.missedCuts } }
            { tag := r.number.setWidth 8, trim := s.register.trim, held := true, limit := r.flags.trimLimit,
              misreg := r.flags.misreg, miscut := true, settling := r.flags.settling })).closeDecision i))) ∧
  (∀ (s : State) (i : RingSlot) (r : RowRecord), s.rowAt i = some r →
    s.closeDecision i =
      ((List.finRange 4).foldl (State.evaluateCounter { r with phase := .decided })
        { s with
            ring := { s.ring with slots := vset s.ring.slots i (some { r with phase := .decided }) }
            lanes :=
              if s.pfail then s.lanes
              else vtab (fun l => { s.lanes[l] with gate :=
                match r.lanes[l].disposition with
                | .stack _ => .stack
                | .sample => .sample
                | _ => .waste }) }).retireRows)

/-- R79, R80, R81, R87, R97: on a clean image, the first waste line of the gate table whose condition holds gives the label
its reason; the skip cause is set when none is held, and nothing else changes, but for the JOB_END seal of a LANE_OFF
lane: its OPEN stack is sealed exactly when the stack's job is no longer the ACTIVE job of its slot, and not while
PFAIL is asserted. On every image the decision reads the job record of the snapshot, and a lane wasted by one of these lines
its OPEN, SEALED, HELD and READY stack records and the lowest-numbered FREE record, in the place of one found damaged the
next. That the line is judged after the first read and before the others is the model's choice (log entries 10 and 37). -/
def Obligations.FirstWasteConditionDecidesTheLane : Prop :=
  (∀ (s : State) (i : RingSlot) (r : RowRecord) (l : Lane) (w : WasteReason), s.clean → s.rowAt i = some r →
     wasteCondition s r l w → (∀ w' : WasteReason, w'.code < w.code → ¬wasteCondition s r l w') →
     ∀ t : State, t = (if w = .laneOff then s.sealEndedJob l else s) →
       s.decideLane i l =
         { t with
             lanes := vset t.lanes l (skipAfter t.lanes[l] (.waste w) r.number)
             ring := { t.ring with
               slots := vset t.ring.slots i
                 (some (r.setEntry l { r.lanes[l] with disposition := .waste w })) } } ∧
       t.ring = s.ring) ∧
  (∀ (s : State) (l : Lane), s.clean →
     (s.pfail = true ∨ s.openOf l = none → s.sealEndedJob l = s) ∧
     (∀ n, s.pfail = false → s.openOf l = some n →
       ((s.job (s.stack n).slot).state = .active ∧ (s.job (s.stack n).slot).jobId = (s.stack n).jobId →
         s.sealEndedJob l = s) ∧
       ((s.job (s.stack n).slot).state ≠ .active ∨ (s.job (s.stack n).slot).jobId ≠ (s.stack n).jobId →
         s.sealEndedJob l =
           (s.setStack n { s.stack n with state := .sealed, sealReason := some .jobEnd }).completeTest n))) ∧
  (∀ (s t : State) (i : RingSlot) (r : RowRecord) (l : Lane) (w : WasteReason), s.rowAt i = some r →
     (r.lanes[l].snapshot = none → t = s) → (∀ j, r.lanes[l].snapshot = some j → t = readRecord (.job j) s) →
     wasteCondition t r l w → (∀ w' : WasteReason, w'.code < w.code → ¬wasteCondition t r l w') →
     s.decideLane i l =
       (if w = .laneOff then (t.readForDecision l).sealEndedJob l else t.readForDecision l).wasteLabel
         i r.number l r.lanes[l] w) ∧
  (∀ (s : State) (l : Lane),
     s.readForDecision l =
       State.readFree 64 (((List.finRange 64).filter (fun n =>
         decide (((s.stack n).state = .opened ∨ (s.stack n).state = .sealed ∨ (s.stack n).state = .held ∨
           (s.stack n).state = .ready) ∧ (s.stack n).lane = l.val + 1))).foldl (fun u n => readRecord (.stack n) u) s)) ∧
  (∀ (s : State) (k : Nat),
     ((∀ n, (s.stack n).state ≠ .free) → s.readFree (k + 1) = s) ∧
     (∀ (n : StackNo) (t : State), (s.stack n).state = .free → (∀ m, m < n → (s.stack m).state ≠ .free) →
       t = readRecord (.stack n) s →
       s.readFree (k + 1) = if (t.stack n).state = .free then t else t.readFree k))

/-- R79, R82, R87, R97: a label that no waste line takes is wasted BLOCKED while PFAIL is asserted, without a stack record
or the run state changed; otherwise it is SAMPLE when its job's filter matches the row, and goes to the commit when it
does not. On every image the first two read no stack record, and the commit follows the reads of R79, which come after the
line is judged: the model's choice (log entries 10 and 37). -/
def Obligations.LabelPastWasteLinesIsSampledOrCommitted : Prop :=
  (∀ (s t : State) (i : RingSlot) (r : RowRecord) (l : Lane) (j : JobSlot), s.rowAt i = some r →
    r.lanes[l].snapshot = some j → t = readRecord (.job j) s → (∀ w : WasteReason, ¬wasteCondition t r l w) →
    s.decideLane i l =
      if t.pfail then t.wasteLabel i r.number l r.lanes[l] .blocked
      else if sampleMatches (t.job j) r.number then t.sampleLabel i r.number l r.lanes[l]
      else (t.readForDecision l).commitStage i r.number l r.lanes[l] j) ∧
  ∀ (s : State) (i : RingSlot) (r : RowRecord) (l : Lane) (j : JobSlot), s.clean → s.rowAt i = some r →
    r.lanes[l].snapshot = some j → (∀ w : WasteReason, ¬wasteCondition s r l w) →
    (s.pfail = true →
      s.decideLane i l =
        { s with
            lanes := vset s.lanes l (skipAfter s.lanes[l] (.waste .blocked) r.number)
            ring := { s.ring with
              slots := vset s.ring.slots i (some (r.setEntry l { r.lanes[l] with disposition := .waste .blocked })) } }) ∧
    (s.pfail = false →
      ((s.job j).sampleEnable = true ∧
          (∀ b, b < 6 → (s.job j).sampleMask.getLsbD b = true → r.number.getLsbD b = (s.job j).sampleValue.getLsbD b) →
        s.decideLane i l =
          { s with
              lanes := vset s.lanes l (skipAfter s.lanes[l] .sample r.number)
              ring := { s.ring with
                slots := vset s.ring.slots i (some (r.setEntry l { r.lanes[l] with disposition := .sample })) } }) ∧
      (¬((s.job j).sampleEnable = true ∧
          (∀ b, b < 6 → (s.job j).sampleMask.getLsbD b = true → r.number.getLsbD b = (s.job j).sampleValue.getLsbD b)) →
        s.decideLane i l = s.commitStage i r.number l r.lanes[l] j))

/-- R83: the offer of a label to an OPEN record is refused by the first test of the table that applies: another slot or
job id; a distance in steps that is not a whole number from 1 to 9,999; a distance from 2 with the foreseen gaps at the
limit. -/
def Obligations.OfferIsRefusedByTheFirstTest : Prop :=
  ∀ (job : JobRecord) (slot : JobSlot) (serial : Option Nat) (r : StackRecord),
    (r.slot ≠ slot ∨ r.jobId ≠ job.jobId → offerRefusal job slot serial r = some .jobChange) ∧
    (r.slot = slot → r.jobId = job.jobId →
      (job.serialized = false → offerRefusal job slot serial r = none) ∧
      (job.serialized = true → ∀ sp k a, r.serial = some sp → serial = some k → sp.lastCommitted = some a →
        ((∀ d, serialDistance job.serialMode job.step a k = some d → d = 0 ∨ 9999 < d) →
          offerRefusal job slot serial r = some .serialBreak) ∧
        (serialDistance job.serialMode job.step a k = some 1 → offerRefusal job slot serial r = none) ∧
        (∀ d, serialDistance job.serialMode job.step a k = some d → 2 ≤ d → d ≤ 9999 →
          (sp.foreseen = job.gapLimit → offerRefusal job slot serial r = some .gapLimit) ∧
          (sp.foreseen < job.gapLimit → offerRefusal job slot serial r = none))))

/-- R112, R113: the serial k steps from an origin lies k steps away: the distance from serial s0 to it is k, for every
k of fewer steps than the serial space holds, in both directions. -/
def Obligations.SerialDistanceInvertsSerialFormula : Prop :=
  ∀ (mode : SerialMode) (step s0 k : Nat), mode = .up ∨ mode = .down → 1 ≤ step → step ≤ 16 → s0 < 100000000 →
    step * k < 100000000 →
    serialAt mode step s0 k < 100000000 ∧ serialDistance mode step s0 (serialAt mode step s0 k) = some k

/-- R83 to R85, R129: on a sound part, a label whose lane holds an OPEN record that takes it is committed to it: the
entry becomes STACK with that number and AWAITING, the committed count advances, a BLOCKED lane becomes ACTIVE, and the
record is sealed with TARGET when the count stands at the target. A label whose lane holds no OPEN record needs a new one;
so does a label that the OPEN record refuses, after that record has been sealed with the reason of the refusal. -/
def Obligations.CommitToOpenRecordAdvancesIt : Prop :=
  (∀ (s : State) (i : RingSlot) (row : RowNo) (l : Lane) (e : LaneEntry) (j : JobSlot), s.sound →
    (s.openOf l = none → s.commitStage i row l e j = s.commitToNew i row l e j) ∧
    (∀ n reason, s.openOf l = some n → offerRefusal (s.job j) j e.serial (s.stack n) = some reason →
      s.commitStage i row l e j =
        ((s.setStack n { s.stack n with state := .sealed, sealReason := some reason }).completeTest n).commitToNew
          i row l e j)) ∧
  ∀ (s : State) (i : RingSlot) (r : RowRecord) (l : Lane) (j : JobSlot) (n : StackNo), s.sound → s.rowAt i = some r →
    s.openOf l = some n → offerRefusal (s.job j) j r.lanes[l].serial (s.stack n) = none →
    ∀ (q : StackRecord) (t : State),
      q =
        { s.stack n with
            committed := (s.stack n).committed + 1
            serial :=
              if (s.job j).serialized then serialAfterCommit (s.job j) r.lanes[l].serial (s.stack n).serial
              else (s.stack n).serial } →
      t =
        { s with
            memory := { s.memory with stackRecs := vset s.memory.stackRecs n q }
            ring := { s.ring with
              slots := vset s.ring.slots i
                (some (r.setEntry l { r.lanes[l] with disposition := .stack n, landing := .awaiting })) }
            lanes := vset s.lanes l { s.lanes[l] with run :=
              match s.lanes[l].run with
              | .blocked _ => .active
              | x => x } } →
      s.commitStage i r.number l r.lanes[l] j =
        if q.committed = q.target then
          (t.setStack n { q with state := .sealed, sealReason := some .target }).completeTest n
        else t

/-- R83, R84, R87, R120, R104: on a sound part, a label that needs a new record makes its lane BLOCKED, with cause
SLOTS while two of its records are SEALED, HELD or READY and NO_RECORD while none is FREE; otherwise the
lowest-numbered FREE record is opened for the job, the job's ordinal advances, and the label is committed to it as its
first. -/
def Obligations.NewRecordIsOpenedOrLaneBlocked : Prop :=
  ∀ (s : State) (i : RingSlot) (r : RowRecord) (l : Lane) (j : JobSlot), s.sound → s.rowAt i = some r →
    (∀ c, (2 ≤ (s.pile l).length ∧ c = .slots ∨
        (s.pile l).length < 2 ∧ (∀ n, (s.stack n).state ≠ .free) ∧ c = .noRecord) →
      s.commitToNew i r.number l r.lanes[l] j =
        { s with
            lanes := vset s.lanes l { skipAfter s.lanes[l] (.waste .blocked) r.number with run := .blocked c }
            ring := { s.ring with
              slots := vset s.ring.slots i
                (some (r.setEntry l { r.lanes[l] with disposition := .waste .blocked })) } }) ∧
    (∀ n, (s.pile l).length < 2 → (s.stack n).state = .free → (∀ m, m < n → (s.stack m).state ≠ .free) →
      ∀ (q : StackRecord) (t : State),
        q =
          { StackRecord.zero .opened with
              lane := l.val + 1
              slot := j
              jobId := (s.job j).jobId
              ordinal := (s.job j).nextOrdinal
              target := (s.job j).target
              committed := 1
              serial :=
                if (s.job j).serialized then
                  some { first := r.lanes[l].serial, lastCommitted := r.lanes[l].serial, lastLanded := none, foreseen := 0,
                         gaps := [] }
                else none } →
        t =
          { s with
              memory := { s.memory with
                stackRecs := vset s.memory.stackRecs n q
                jobRecs := vset s.memory.jobRecs j
                  { s.job j with nextOrdinal :=
                      if (s.job j).nextOrdinal = 65535 then 1 else (s.job j).nextOrdinal + 1 } }
              ring := { s.ring with
                slots := vset s.ring.slots i
                  (some (r.setEntry l { r.lanes[l] with disposition := .stack n, landing := .awaiting })) }
              lanes := vset s.lanes l { s.lanes[l] with run :=
                match s.lanes[l].run with
                | .blocked _ => .active
                | x => x } } →
        s.commitToNew i r.number l r.lanes[l] j =
          if q.target = 1 then (t.setStack n { q with state := .sealed, sealReason := some .target }).completeTest n
          else t)

/-- R84, R89: each BLOCKED lane is tested as for a new record: it becomes ACTIVE when fewer than two of its records are
SEALED, HELD or READY and some record is FREE, and otherwise takes the cause found. Nothing else changes. -/
def Obligations.UnblockTestFreesOrKeepsBlockedLanes : Prop :=
  ∀ s : State, ∃ t, exec .laneUnblock s = .next t ∧ t = { s with lanes := t.lanes } ∧
    ∀ l : Lane, t.lanes[l] = { s.lanes[l] with run := t.lanes[l].run } ∧
      ((∀ c, s.lanes[l].run ≠ .blocked c) → t.lanes[l].run = s.lanes[l].run) ∧
      (∀ c, s.lanes[l].run = .blocked c →
        (2 ≤ (s.pile l).length → t.lanes[l].run = .blocked .slots) ∧
        ((s.pile l).length < 2 → (∀ n, (s.stack n).state ≠ .free) → t.lanes[l].run = .blocked .noRecord) ∧
        (∀ n, (s.pile l).length < 2 → (s.stack n).state = .free → t.lanes[l].run = .active))

/-! ## Condition counters (R167 to R169) -/

/-- R167 to R169: a counter that is off takes no row. Otherwise its working value grows by the lanes of its set whose
disposition is in its mask, or by one for a ROW counter that has any, saturating; an ACCUMULATE counter publishes at
every row, and a WINDOW counter counts the row and publishes and starts again at the window length. A published value
at the threshold raises COUNTER_LIMIT and, with action STOP, sets the quality-stop latch; at a counter that is off, of
threshold 0, or short of its window or threshold nothing happens. THRESHOLD_REACHED and WINDOW_PUBLISH sent as commands of
their own, without the row and the publish that R168 and R169 put before them, are the model's choice (log entry 1). -/
def Obligations.CounterTakesDecidedRowAndPublishes : Prop :=
  (∀ (r : RowRecord) (s : State) (c : CounterNo) (adds : Nat) (k : CounterState),
     k = s.counters[c] →
     adds = ((List.finRange 12).filter (fun l =>
       k.config.laneSet.getLsbD l.val && (match r.lanes[l].disposition with
         | .undecided => false
         | .stack _ => k.config.mask.getLsbD 0
         | .sample => k.config.mask.getLsbD 1
         | .waste w => k.config.mask.getLsbD (w.code + 1)))).length →
     ∀ working : Count,
       working = satAdd k.working (match k.config.unit with | .label => adds | .row => min adds 1) →
       (s.counterOff c = true → State.evaluateCounter r s c = s) ∧
       (s.counterOff c = false → k.config.mode = .window →
         State.evaluateCounter r s c =
           State.windowPublish { s with counters := vset s.counters c { k with working := working, rows := k.rows + 1 } } c) ∧
       (s.counterOff c = false → k.config.mode = .accumulate →
         (k.config.threshold ≤ k.published.toNat →
           State.evaluateCounter r s c =
             { s with counters := vset s.counters c { k with working := working, published := working, rows := 0 } }) ∧
         (k.published.toNat < k.config.threshold →
           State.evaluateCounter r s c =
             State.thresholdReached
               { s with counters := vset s.counters c { k with working := working, published := working, rows := 0 } } c))) ∧
  (∀ (s : State) (c : CounterNo) (k : CounterState), k = s.counters[c] →
     (s.counterOff c = true ∨ k.config.mode = .accumulate ∨ k.rows < k.config.window →
       exec (.windowPublish c) s = .next s) ∧
     (s.counterOff c = false → k.config.mode = .window → k.config.window ≤ k.rows →
       exec (.windowPublish c) s = .next
         { s with
             counters := vset s.counters c { k with published := k.working, working := 0, rows := 0 }
             attention :=
               if k.config.threshold ≠ 0 ∧ k.config.threshold ≤ k.working.toNat then
                 { s.attention with
                     latched := s.attention.latched ||| Attention.counterLimit.set
                     qualityStop := s.attention.qualityStop || decide (k.config.action = .stop) }
               else s.attention }) ∧
     (s.counterOff c = true ∨ k.config.threshold = 0 ∨ k.published.toNat < k.config.threshold →
       exec (.thresholdReached c) s = .next s) ∧
     (s.counterOff c = false → k.config.threshold ≠ 0 → k.config.threshold ≤ k.published.toNat →
       exec (.thresholdReached c) s = .next
         { s with attention := { s.attention with
             latched := s.attention.latched ||| Attention.counterLimit.set
             qualityStop := s.attention.qualityStop || decide (k.config.action = .stop) } }))

/-! ## Landing, losses and jams (R90 to R97) -/

/-- R92, R93, R87, R97: a pocket pulse at high-water is credited to the oldest open row whose lane entry is AWAITING
and whose landing window holds the position. The entry becomes LANDED; the lane's consecutive-lost count becomes 0 and
its skip cause is cleared unless the row is not past the skip row, row numbers compared modulo 2^32 (the model's reading: log
entry 18). When the entry's stack record is damaged, or is found damaged at the read for the landing, with the effects of that
damage, nothing is written to it, and the finished test follows. Else, on a clean image, the landed count of the stack grows
by one, with the gap check when both hold serials, and the completion test and the finished test follow. While PFAIL is
asserted no record is written. The gap check counts in the steps and the direction of the job in the record's slot while that
job is serialized (R118); otherwise in a free step and direction, and the model's counter of free values advances at every gap
check (log entry 6). -/
def Obligations.PocketPulseCreditsOldestLandingWindow : Prop :=
  ∀ (s : State) (l : Lane) (i : RingSlot) (r : RowRecord) (n : StackNo) (landed : LaneUnit → LaneUnit),
    ¬posBefore s.position.position s.position.highWater →
    s.firstOpen (fun q => q.lanes[l].landing = .awaiting ∧
      posWithin s.position.position (posAdd (posAdd q.mark s.work.dGate) s.work.lMin)
        (posAdd (posAdd q.mark s.work.dGate) s.work.lMax)) i r →
    r.lanes[l].disposition = .stack n →
    (∀ x : LaneUnit,
      landed x =
        { x with
            consecutiveLost := 0
            skipCause := match x.skipRow with
              | some k => if posPast r.number k then none else x.skipCause
              | none => none
            skipRow := match x.skipRow with
              | some k => if posPast r.number k then none else some k
              | none => none }) →
    ∀ a t : State,
      a =
        { s with ring := { s.ring with
            slots := vset s.ring.slots i (some (r.setEntry l { r.lanes[l] with landing := .landed })) } } →
      t = { a with lanes := vset s.lanes l (landed s.lanes[l]) } →
      ((s.stack n).state = .quarantined .damaged → exec (.pocket l) s = .next t.retireRows) ∧
      (∀ v : State, s.pfail = false → v = readRecord (.stack n) a → (v.stack n).state = .quarantined .damaged →
        exec (.pocket l) s = .next (State.retireRows { v with lanes := vset v.lanes l (landed v.lanes[l]) })) ∧
      (s.clean → s.memory.damagedSet = [] → (s.stack n).state ≠ .quarantined .damaged →
        (s.pfail = true → exec (.pocket l) s = .next t.retireRows) ∧
        (s.pfail = false → (s.stack n).serial = none ∨ r.lanes[l].serial = none →
          exec (.pocket l) s = .next
            (((t.setStack n { s.stack n with landed := min ((s.stack n).landed + 1) 9999 }).completeTest n).retireRows)) ∧
        (∀ sp k, s.pfail = false → (s.stack n).serial = some sp → r.lanes[l].serial = some k →
          ∃ (mode : SerialMode) (step : Nat),
            ((s.job (s.stack n).slot).serialized = true →
              mode = (s.job (s.stack n).slot).serialMode ∧ step = (s.job (s.stack n).slot).step) ∧
            ((s.job (s.stack n).slot).serialized = false → (mode = .up ∨ mode = .down) ∧ 1 ≤ step ∧ step ≤ 16) ∧
            exec (.pocket l) s = .next
              ((({ t with freeCount := s.freeCount + 1 }.setStack n
                  (gapCheck mode step s.lanes[l].skipCause k
                    { s.stack n with landed := min ((s.stack n).landed + 1) 9999 })).completeTest n).retireRows)))

/-- R130, R131: the gap check. The landed serial becomes the last landed. A record whose first landing is its first
serial, or whose landing follows the last landed by one step, gains no gap; otherwise the missing run, from the first
serial or from one step after the last landed, is entered with the lane's skip cause, or RESUME when none is held, a
run longer than 9,999 as several entries in succession; an entry that meets a full list is not entered and leaves
GAPS_INCOMPLETE. -/
def Obligations.GapCheckRecordsMissingRun : Prop :=
  ∀ (mode : SerialMode) (step : Nat) (skip : Option Cause) (k : Nat) (r : StackRecord) (sp : SerialPart),
    r.serial = some sp →
    ∀ (start len : Nat) (missing : Bool),
      (∀ f, sp.lastLanded = none → sp.first = some f → serialDistance mode step f k = some len ∧ start = f ∧
        missing = decide (1 ≤ len)) →
      (∀ a d, sp.lastLanded = some a → serialDistance mode step a k = some d → len = d - 1 ∧
        start = serialAt mode step a 1 ∧ missing = decide (2 ≤ d)) →
      (sp.lastLanded = none → sp.first ≠ none) →
      (∀ a, sp.lastLanded = some a → serialDistance mode step a k ≠ none) →
      (missing = false →
        gapCheck mode step skip k r = { r with serial := some { sp with lastLanded := some k } }) ∧
      (missing = true → len ≤ 9999 → sp.gaps.length < 8 →
        gapCheck mode step skip k r =
          { r with serial := some { sp with
              lastLanded := some k
              gaps := sp.gaps ++ [{ start := start, length := len, cause := skip.getD .resume }] } }) ∧
      (missing = true → start < 100000000 →
        ∀ pieces : List Gap, pieces = gapPieces mode step start len (skip.getD .resume) →
          gapCheck mode step skip k r =
            { r with
                serial := some { sp with
                  lastLanded := some k, gaps := sp.gaps ++ pieces.take (8 - sp.gaps.length) }
                flags := { r.flags with
                  gapsIncomplete := r.flags.gapsIncomplete || decide (8 < sp.gaps.length + pieces.length) } })

/-- R92, R94, R4, R97: a pocket pulse below high-water is counted as a back landing and nothing else. One that no
landing window holds is a stray: the lane's stray count grows, and on a sound part the stray count and SUSPECT of the
stack of the oldest AWAITING label of the lane, or of the lane's OPEN stack when none is AWAITING; not those of a
QUARANTINED record. That under PFAIL, where R97 forbids the mark, the record is not read either, whatever bits of the image
are flipped, is the model's choice (log entry 28). -/
def Obligations.UnmatchedPocketPulseIsStray : Prop :=
  ∀ (s : State) (l : Lane),
    (posBefore s.position.position s.position.highWater →
      exec (.pocket l) s = .next { s with backLandings := satInc s.backLandings }) ∧
    (¬posBefore s.position.position s.position.highWater →
      s.noOpen (fun q => q.lanes[l].landing = .awaiting ∧
        posWithin s.position.position (posAdd (posAdd q.mark s.work.dGate) s.work.lMin)
          (posAdd (posAdd q.mark s.work.dGate) s.work.lMax)) →
      ∀ t : State, t = { s with lanes := vset s.lanes l { s.lanes[l] with stray := satInc s.lanes[l].stray } } →
        (s.pfail = true → exec (.pocket l) s = .next t) ∧
        (s.pfail = false → s.noOpen (fun q => q.lanes[l].landing = .awaiting) → s.openOf l = none →
          exec (.pocket l) s = .next t) ∧
        (∀ n, s.clean → s.pfail = false →
          ((∃ i r, s.firstOpen (fun q => q.lanes[l].landing = .awaiting) i r ∧ r.lanes[l].disposition = .stack n) ∨
            s.noOpen (fun q => q.lanes[l].landing = .awaiting) ∧ s.openOf l = some n) →
          ((∃ c, (s.stack n).state = .quarantined c) → exec (.pocket l) s = .next t) ∧
          ((∀ c, (s.stack n).state ≠ .quarantined c) →
            exec (.pocket l) s = .next
              (t.setStack n
                { s.stack n with
                    stray := satInc (s.stack n).stray, flags := { (s.stack n).flags with suspect := true } }))))

/-- R3, R95, R87, R90, R97: when the web passes the end of a row's landing windows, at the up-count that sets high-
water one past it, each of its AWAITING labels in turn becomes LOST and the finished test follows; with no such row
the command changes nothing. A lost label sets the skip cause LOST when none is held, adds to the lane's consecutive-
lost count, jams a running lane at the jam limit and, on a sound part, adds to the lost count of its stack before the
completion test. LANE_JAMMED sent as a command of its own makes the jam test alone, as if a loss had just been taken:
the model's choice (log entry 1). So is that under PFAIL, where R97 forbids the record's write, a loss does not read
the record either, whatever bits are flipped (log entry 28), and that of several such rows the oldest is taken (log
entry 35). -/
def Obligations.LandingWindowEndLosesAwaitingLabels : Prop :=
  (∀ (s : State) (i : RingSlot) (r : RowRecord),
    s.firstOpen (fun q => (∃ l : Lane, q.lanes[l].landing = .awaiting) ∧ s.position.advanced = true ∧
      s.position.highWater = posAdd (posAdd (posAdd q.mark s.work.dGate) s.work.lMax) 1) i r →
    exec .landingWindowEnd s = .next ((List.finRange 12).foldl (State.loseLabel i) s).retireRows) ∧
  (∀ s : State,
    s.noOpen (fun q => (∃ l : Lane, q.lanes[l].landing = .awaiting) ∧ s.position.advanced = true ∧
      s.position.highWater = posAdd (posAdd (posAdd q.mark s.work.dGate) s.work.lMax) 1) →
    exec .landingWindowEnd s = .next s) ∧
  (∀ (s : State) (i : RingSlot) (r : RowRecord) (l : Lane), s.rowAt i = some r →
    (r.lanes[l].landing ≠ .awaiting → s.loseLabel i l = s) ∧
    (∀ n, r.lanes[l].landing = .awaiting → r.lanes[l].disposition = .stack n →
      ∀ (u : LaneUnit) (t : State),
        u = { skipAfter s.lanes[l] .lost r.number with consecutiveLost := satInc s.lanes[l].consecutiveLost } →
        t =
          { s with
              ring := { s.ring with
                slots := vset s.ring.slots i (some (r.setEntry l { r.lanes[l] with landing := .lost })) }
              lanes := vset s.lanes l
                { u with run := match s.lanes[l].run with
                  | .off => .off
                  | .jammed => .jammed
                  | x => if s.work.jamLimit ≤ u.consecutiveLost.toNat then .jammed else x } } →
        (s.pfail = true → s.loseLabel i l = t) ∧
        (s.sound → (s.stack n).state ≠ .quarantined .damaged →
          s.loseLabel i l =
            (t.setStack n { s.stack n with lost := min ((s.stack n).lost + 1) 9999 }).completeTest n))) ∧
  (∀ (s : State) (l : Lane),
    (s.lanes[l].run ≠ .off → s.work.jamLimit ≤ s.lanes[l].consecutiveLost.toNat →
      exec (.laneJammed l) s = .next { s with lanes := vset s.lanes l { s.lanes[l] with run := .jammed } }) ∧
    (s.lanes[l].run = .off ∨ s.lanes[l].run = .jammed ∨ s.lanes[l].consecutiveLost.toNat < s.work.jamLimit →
      exec (.laneJammed l) s = .next s))

/-! ## Stacks and rows that move on (R33, R34, R106, R126 to R128, R163) -/

/-- R126 to R128, R137, R141, R180: a SEALED record is read and tested; one whose landed and lost counts add up to its
committed count moves on: to FREE when nothing was committed; to HELD while the lane's ready position is occupied; else to
READY with a PUSH pulse and an offer to the arbiter, with SHORT when fewer landed than its target. A lane's HELD record is
pushed likewise once no READY record stands there. An incomplete record, and any record while PFAIL is asserted, stays.
The model's choice is that STACK_COMPLETE reads the SEALED record it tests (log entry 10), and that HELD_PUSH with no record
to push makes only the arbiter's grant that a push would lead to (log entry 1). -/
def Obligations.CompleteRecordMovesOnAndHeldRecordIsPushed : Prop :=
  (∀ (s : State) (n : StackNo),
    (s.pfail = true ∨ (s.stack n).state ≠ .sealed → exec (.stackComplete n) s = .next s) ∧
    (s.pfail = false → (s.stack n).state = .sealed →
      exec (.stackComplete n) s = .next ((readRecord (.stack n) s).completeTest n)) ∧
    (s.pfail = true ∨ (s.stack n).state ≠ .sealed ∨ (s.stack n).landed + (s.stack n).lost ≠ (s.stack n).committed →
      s.completeTest n = s) ∧
    (s.pfail = false → (s.stack n).state = .sealed → (s.stack n).landed + (s.stack n).lost = (s.stack n).committed →
      ((s.stack n).committed = 0 →
        s.completeTest n = (s.setStack n { s.stack n with state := .free }).unblockLanes) ∧
      (∀ (l : Lane) (f : StackFlags), (s.stack n).committed ≠ 0 → (s.stack n).lane = l.val + 1 →
        f =
          { (s.stack n).flags with
              short := (s.stack n).flags.short || decide ((s.stack n).landed < (s.stack n).target) } →
        (s.readyOf l ≠ none → s.completeTest n = s.setStack n { s.stack n with state := .held, flags := f }) ∧
        (s.readyOf l = none →
          s.completeTest n =
            State.grant { s.setStack n { s.stack n with state := .ready, flags := f } with
              outputs := .push l :: s.outputs })))) ∧
  (∀ (s : State) (l : Lane),
    (s.pfail = true → exec (.heldPush l) s = .next s) ∧
    (s.pfail = false → s.heldOf l = none ∨ s.readyOf l ≠ none → exec (.heldPush l) s = .next s.grant) ∧
    (∀ n, s.sound → s.heldOf l = some n → s.readyOf l = none →
      exec (.heldPush l) s = .next
        (State.grant { s.setStack n { s.stack n with state := .ready } with outputs := .push l :: s.outputs })))

/-- R32 to R34: the oldest open row, once DECIDED with no lane AWAITING, becomes RETIRED and leaves the open rows; each
job slot its snapshots name is tested for emptying; then the next oldest row is tested, or the drain when no row is
open. A row that is not finished keeps its place. -/
def Obligations.FinishedOldestRowRetires : Prop :=
  ∀ s : State,
    (s.ring.openCount = 0 → exec .rowRetire s = .next s) ∧
    (∀ r, s.rowAt (ringSlot (s.ring.next - BitVec.ofNat 32 s.ring.openCount)) = some r →
      (r.phase ≠ .decided ∨ (∃ l : Lane, r.lanes[l].landing = .awaiting) → exec .rowRetire s = .next s) ∧
      (s.clean → s.ring.openCount ≠ 0 → r.phase = .decided → (∀ l : Lane, r.lanes[l].landing ≠ .awaiting) →
        ∀ t : State,
          t =
            (List.finRange 16).foldl
              (fun a j => if ∃ l : Lane, r.lanes[l].snapshot = some j then a.emptySlot j else a)
              { s with ring :=
                  { s.ring with
                    slots := vset s.ring.slots (ringSlot (s.ring.next - BitVec.ofNat 32 s.ring.openCount))
                      (some { r with phase := .retired })
                    openCount := s.ring.openCount - 1 } } →
          (s.ring.openCount = 1 → exec .rowRetire s = .next t.drainTest) ∧
          (s.ring.openCount ≠ 1 → exec .rowRetire s = .next t.retireRows)))

/-- R106, R163, R97: an ENDING slot that no open row references becomes EMPTY, and every lane that names it loses its
row origin and stops running, unless it is JAMMED. A DRAINING line with no open row becomes PARKED with every gate at
WASTE and MODE_REACHED raised, and T is written as the saved trim. Otherwise, and for the record writes while PFAIL is
asserted, nothing changes. -/
def Obligations.SlotEmptiesAndDrainCompletes : Prop :=
  (∀ (s : State) (j : JobSlot),
    (s.pfail = true ∨ (s.job j).state ≠ .ending ∨ s.slotReferenced j = true → exec (.slotEmpty j) s = .next s) ∧
    (s.sound → (s.job j).state = .ending → s.slotReferenced j = false →
      exec (.slotEmpty j) s = .next
        { s.setJob j { s.job j with state := .empty } with
            lanes := vtab (fun l =>
              if s.laneNames l j then
                { s.lanes[l] with
                    rowOrigin := .none, run := if s.lanes[l].run = .jammed then .jammed else .off }
              else s.lanes[l]) })) ∧
  (∀ s : State,
    (s.modes.mode ≠ .draining ∨ s.ring.openCount ≠ 0 → exec .drainComplete s = .next s) ∧
    (s.clean → s.modes.mode = .draining → s.ring.openCount = 0 →
      exec .drainComplete s = .next
        { s with
            modes := { s.modes with mode := .parked }
            lanes := vtab (fun l => { s.lanes[l] with gate := .waste })
            memory := { s.memory with geometry :=
              if s.pfail = true ∨ s.geometryDamaged = true then s.memory.geometry
              else { s.memory.geometry with savedTrim := s.register.trim } }
            attention := { s.attention with latched := s.attention.latched ||| Attention.modeReached.set } }))

/-! ## The shuttle and the delivery queue (R141 to R159) -/

/-- R141 to R144: while the shuttle is not IDLE, no lane holds a READY record, the queue is at the capacity or PFAIL is
asserted, no grant is made. Otherwise, on a sound part, the winner's READY record becomes TRANSFER, the shuttle is
MOVING with the transfer timer at its timeout, GO is pulsed, the lane's HELD record is pushed and the BLOCKED lanes are
tested. In STRICT the lowest priority value wins, then the lowest lane number. In WEIGHTED the first READY lane with a
credit after the last winner wins and pays one credit; with none, the credits are reloaded from the weights first. -/
def Obligations.ShuttleGrantStartsTheWinnersTransfer : Prop :=
  (∀ s : State,
    s.pfail = true ∨ s.shuttle.state ≠ .idle ∨ (∀ l : Lane, s.readyOf l = none) ∨
        s.work.capacity ≤ s.queue.entries.length →
      exec .shuttleGrant s = .next s) ∧
  (∀ (s : State) (l : Lane) (n : StackNo), s.sound → s.shuttle.state = .idle →
    s.queue.entries.length < s.work.capacity → s.readyOf l = some n →
    (∀ m, (s.stack m).state = .ready → (s.stack m).lane = l.val + 1 → m = n) →
    (s.work.arbiter = .strict ∧
        (∀ k : Lane, s.readyOf k ≠ none → k ≠ l →
          (s.laneRec l).priority < (s.laneRec k).priority ∨ (s.laneRec l).priority = (s.laneRec k).priority ∧ l < k) ∨
      s.work.arbiter = .weighted ∧ 0 < s.shuttle.credits[l] ∧
        ∃ start d, start = (match s.shuttle.lastWinner with | none => 0 | some w => w.val + 1) ∧ d < 12 ∧
          l = Fin.ofNat 12 (start + d) ∧
          ∀ e, e < d → s.readyOf (Fin.ofNat 12 (start + e)) = none ∨
            s.shuttle.credits[(Fin.ofNat 12 (start + e) : Lane)] = 0) →
    ∀ t : State,
      t =
        { s.setStack n { s.stack n with state := .transfer } with
            shuttle :=
              if s.work.arbiter = .weighted then
                { s.shuttle with
                    state := .moving l n s.work.shuttleTimeout
                    credits := vset s.shuttle.credits l (s.shuttle.credits[l] - 1)
                    lastWinner := some l }
              else { s.shuttle with state := .moving l n s.work.shuttleTimeout }
            outputs := .go l :: s.outputs } →
      (s.heldOf l = none → exec .shuttleGrant s = .next t.unblockLanes) ∧
      (∀ m, s.heldOf l = some m →
        exec .shuttleGrant s = .next
          (State.unblockLanes
            { t.setStack m { s.stack m with state := .ready } with outputs := .push l :: .go l :: s.outputs }))) ∧
  (∀ s : State, s.sound → s.shuttle.state = .idle → s.queue.entries.length < s.work.capacity →
    s.work.arbiter = .weighted → (∃ l : Lane, s.readyOf l ≠ none) →
    (∀ l : Lane, s.readyOf l = none ∨ s.shuttle.credits[l] = 0) →
    exec .shuttleGrant s =
      exec .shuttleGrant { s with shuttle := { s.shuttle with credits := vtab (fun l => (s.laneRec l).weight) } })

/-- R145 to R147, R156: DONE ends a transfer: the stack joins the queue's tail as DELIVERED with the next delivery sequence
(a void entry when its record is damaged, or, by the model's choice of log entry 16, when it is in no state that a transfer
leaves it in), the shuttle is IDLE and the arbiter is tested. FAULT and the expiry of the timer are counted; the stack
becomes QUARANTINED with cause TRANSFER (its record stays as it is when it is damaged, or, by the same choice, when it is in
no state that a transfer leaves it in) and the shuttle FAULTED. While PFAIL is asserted only the shuttle state and the counts
change: that the record, which R156 forbids to write, is not read then either, whatever bits are flipped, is the model's
choice (log entry 28). In FAULTED a DONE is a late done; otherwise a handshake outside a transfer is a stray, and a timer
expiry nothing. -/
def Obligations.TransferEndsByDoneFaultOrTimeout : Prop :=
  ∀ s : State,
    (∀ l n ms, s.shuttle.state = .moving l n ms →
      ∀ a b : ShuttleUnit, a = { s.shuttle with state := .faulted, faults := satInc s.shuttle.faults } →
        b = { s.shuttle with state := .faulted, timeouts := satInc s.shuttle.timeouts } →
        (s.pfail = true →
          exec .done s = .next { s with shuttle := { s.shuttle with state := .idle } } ∧
          exec .fault s = .next { s with shuttle := a } ∧ exec .transferTimeout s = .next { s with shuttle := b }) ∧
        (s.sound → (s.stack n).state = .transfer →
          exec .done s = .next
            (State.grant
              { s.setStack n { s.stack n with state := .delivered, deliverySeq := some s.queue.nextSeq } with
                  queue := { entries := s.queue.entries ++ [some n], nextSeq := s.queue.nextSeq + 1 }
                  shuttle := { s.shuttle with state := .idle } }) ∧
          exec .fault s = .next
            (State.unblockLanes
              { s.setStack n { s.stack n with state := .quarantined .transfer } with shuttle := a }) ∧
          exec .transferTimeout s = .next
            (State.unblockLanes
              { s.setStack n { s.stack n with state := .quarantined .transfer } with shuttle := b })) ∧
        (s.sound → (s.stack n).state ≠ .transfer →
          exec .done s = .next
            (State.grant
              { s with
                  queue := { s.queue with entries := s.queue.entries ++ [none] }
                  shuttle := { s.shuttle with state := .idle } }) ∧
          exec .fault s = .next (State.unblockLanes { s with shuttle := a }) ∧
          exec .transferTimeout s = .next (State.unblockLanes { s with shuttle := b }))) ∧
    (s.shuttle.state = .faulted →
      exec .done s = .next { s with shuttle := { s.shuttle with lateDones := satInc s.shuttle.lateDones } }) ∧
    (s.shuttle.state = .idle →
      exec .done s = .next { s with shuttle := { s.shuttle with strayHandshakes := satInc s.shuttle.strayHandshakes } }) ∧
    (s.shuttle.state = .idle ∨ s.shuttle.state = .faulted →
      exec .fault s = .next { s with shuttle := { s.shuttle with strayHandshakes := satInc s.shuttle.strayHandshakes } } ∧
      exec .transferTimeout s = .next s)

/-- R152 to R154, R156: TAKEN drops the queue's head: a void entry as it is, and a DELIVERED record becomes FREE; the
arbiter is tested. With the queue empty a stray take is counted and STRAY_TAKE raised. While PFAIL is asserted a take
of a stack is only counted as a power-fail take: that the record at the head is not read then, whatever bits are flipped, is
the model's choice (log entry 28). STACK RETIRE frees the DELIVERED record at the head, or a QUARANTINED
one that is neither in transfer nor awaited by an open row, and answers its summary; a FREE record keeps the fields it
held, the quarantine cause among them (R117); a DELIVERED record elsewhere in
the queue is ERR_NOT_HEAD, any other state ERR_STATE, a number beyond 63 ERR_ARG. With ALL it empties the queue, frees
every record in it and answers how many records were freed and void entries dropped. A record that carries its damage mark
reads clean with any bits of it flipped (R179), and the words that the write to FREE stores get fresh check bits (R180):
which ones is a free value (log entry 38). -/
def Obligations.TakenAndRetireFreeStacks : Prop :=
  (∀ s : State,
     (s.queue.entries = [] →
       exec .taken s = .next
         { s with
             shuttle := { s.shuttle with strayTakes := satInc s.shuttle.strayTakes }
             attention := { s.attention with latched := s.attention.latched ||| Attention.strayTake.set } }) ∧
     (∀ rest, s.queue.entries = none :: rest →
       exec .taken s = .next (State.grant { s with queue := { s.queue with entries := rest } })) ∧
     (∀ n rest, s.queue.entries = some n :: rest →
       (s.pfail = true →
         exec .taken s = .next
           { s with shuttle := { s.shuttle with powerFailTakes := satInc s.shuttle.powerFailTakes } }) ∧
       (s.sound → (s.stack n).state = .delivered →
         exec .taken s = .next
           (State.grant (State.unblockLanes
             { s.setStack n { s.stack n with state := .free } with queue := { s.queue with entries := rest } }))))) ∧
  ((∀ (s : State) (b : Byte), s.sound →
     (64 ≤ b.toNat → exec (.stackRetire b) s = .next { s.framed 2 with port := .ready (responseFrame .errArg []) }) ∧
     (∀ n : StackNo, b.toNat = n.val →
       ((s.stack n).state = .delivered →
         (s.queue.entries.head? ≠ some (some n) →
           exec (.stackRetire b) s = .next { s.framed 2 with port := .ready (responseFrame .errNotHead []) }) ∧
         (∀ rest, s.queue.entries = some n :: rest →
           exec (.stackRetire b) s = .next
             { State.grant (State.unblockLanes
                 { (s.framed 2).setStack n { s.stack n with state := .free } with
                     queue := { s.queue with entries := rest }
                     port := .building }) with
               port := .ready (responseFrame .ok (stackSummary n (s.stack n))) })) ∧
       (∀ c, (s.stack n).state = .quarantined c →
         (s.inTransferStack n = true ∨ s.awaitedStack n = true →
           exec (.stackRetire b) s = .next { s.framed 2 with port := .ready (responseFrame .errState []) }) ∧
         (s.inTransferStack n = false → s.awaitedStack n = false →
           exec (.stackRetire b) s = .next
             { State.grant (State.unblockLanes
                 { (s.framed 2).setStack n { s.stack n with state := .free, heldCause := some c } with
                     port := .building }) with
               port := .ready (responseFrame .ok (stackSummary n (s.stack n))) })) ∧
       ((s.stack n).state ≠ .delivered → (∀ c, (s.stack n).state ≠ .quarantined c) →
         exec (.stackRetire b) s = .next { s.framed 2 with port := .ready (responseFrame .errState []) }))) ∧
   (∀ (s : State) (n : StackNo) (b : Byte), s.pfail = false → s.memory.damagedSet = [] → b.toNat = n.val →
     (s.stack n).state = .quarantined .damaged → s.inTransferStack n = false → s.awaitedStack n = false →
     ∀ t : State,
       t =
         { s.framed 2 with
             memory := { s.memory with
               stackRecs := vset s.memory.stackRecs n { s.stack n with state := .free, heldCause := some .damaged }
               flips := s.memory.flips.filter (fun f => !decide (f.ref = .stack n) || !Config.freedWord f.word) }
             port := .building } →
       exec (.stackRetire b) s = .next
         { State.grant t.unblockLanes with port := .ready (responseFrame .ok (stackSummary n (s.stack n))) }) ∧
   (∀ (s : State) (b : Byte), s.sound → (∀ n, some n ∈ s.queue.entries → (s.stack n).state = .delivered) →
     (s.queue.entries.filterMap id).Nodup →
     ∀ (k v : Nat) (t : State), k = (s.queue.entries.filterMap id).length → v = s.queue.entries.countP Option.isNone →
       t =
         { s.framed 2 with
             memory := { s.memory with stackRecs := vtab (fun n =>
               if some n ∈ s.queue.entries then { s.memory.stackRecs[n] with state := .free }
               else s.memory.stackRecs[n]) }
             queue := { s.queue with entries := [] }
             port := .building } →
       exec (.stackRetireAll b) s = .next
         { State.grant (if k = 0 then t else t.unblockLanes) with
           port := .ready (responseFrame .ok [byteOf k, byteOf v]) }))

/-! ## The lines of the press and of the host (R86, R140, R151, R173, R174, R176, R192, R199) -/

/-- R86, R140, R151, R173, R174, R176, R192, R199: SLOW_REQ follows the queue and the watermark; STOP_REQ holds while a lane
is JAMMED, the shuttle is FAULTED, the quality-stop latch is set, PFAIL is asserted, or a lane is BLOCKED with the queue and
the stack in transfer at the capacity; the pending set holds the latched causes and the four level causes; ATTN holds while a
pending cause is enabled. The lane select lines carry the number of the lane in transfer, and 0 with no transfer; a lane's S
line is asserted while its gate setting is STACK and its P line while it is SAMPLE. Each cause has its bit of a cause set. -/
def Obligations.RequestLinesFollowTheirConditions : Prop :=
  ∀ s : State,
    (s.slowReq = true ↔ s.work.watermark ≤ s.queue.entries.length) ∧
    (s.stopReq = true ↔
      (∃ l : Lane, s.lanes[l].run = .jammed) ∨ s.shuttle.state = .faulted ∨ s.attention.qualityStop = true ∨
      s.pfail = true ∨
      ((∃ (l : Lane) (c : BlockedCause), s.lanes[l].run = .blocked c) ∧
        s.queue.entries.length + s.shuttle.state.inTransfer = s.work.capacity)) ∧
    (∀ b, b < 8 → (s.pendingSet.getLsbD b = s.attention.latched.getLsbD b)) ∧
    (s.attention.latched &&& 0xFF00 = 0 →
      (s.pendingSet.getLsbD 8 = true ↔ ∃ l : Lane, s.lanes[l].run = .jammed) ∧
      (s.pendingSet.getLsbD 9 = true ↔ ∃ (l : Lane) (c : BlockedCause), s.lanes[l].run = .blocked c) ∧
      (s.pendingSet.getLsbD 10 = true ↔ s.shuttle.state = .faulted) ∧
      (s.pendingSet.getLsbD 11 = true ↔ s.work.watermark ≤ s.queue.entries.length)) ∧
    (s.attn = true ↔ ∃ b, b < 16 ∧ s.pendingSet.getLsbD b = true ∧ s.attention.enabled.getLsbD b = true) ∧
    (∀ l n ms, s.shuttle.state = .moving l n ms → s.laneSelect = l.val + 1) ∧
    (s.shuttle.state = .idle ∨ s.shuttle.state = .faulted → s.laneSelect = 0) ∧
    (∀ l : Lane,
      ((gateLines s.lanes[l].gate).1 = true ↔ s.lanes[l].gate = .stack) ∧
      ((gateLines s.lanes[l].gate).2 = true ↔ s.lanes[l].gate = .sample)) ∧
    [Attention.modeReached, .trackingLost, .verdictFault, .trimSaturated, .counterLimit, .recordCorrected, .recordDamaged,
      .strayTake, .laneJam, .laneBlocked, .shuttleFault, .deliverySlow].map Attention.set =
      [0x0001, 0x0002, 0x0004, 0x0008, 0x0010, 0x0020, 0x0040, 0x0080, 0x0100, 0x0200, 0x0400, 0x0800]

/-! ## Power-fail and reset (R76, R185 to R187) -/

/-- R185, R76: the assertion of PFAIL holds every gate at WASTE and hands T over for the saved trim unless the geometry
record is damaged; T handed over is then written as the saved trim, after a read of the record and unless that finds it
damaged, and the words that the write stores (a free choice, log entry 34) hold no flipped bit any more. Asserted already,
or with nothing handed over, nothing changes. -/
def Obligations.PfailHoldsGatesAndSavesTrim : Prop :=
  ∀ s : State,
    (s.pfail = true → exec .pfailAssert s = .next s) ∧
    (s.pfail = false →
      exec .pfailAssert s = .next
        { s with
            pfail := true
            lanes := vtab (fun l => { s.lanes[l] with gate := .waste })
            memory := { s.memory with
              trimToSave := if s.geometryDamaged then none else some s.register.trim } }) ∧
    (s.memory.trimToSave = none → exec .savedTrimWrite s = .next s) ∧
    (∀ v, s.clean → s.memory.trimToSave = some v →
      exec .savedTrimWrite s = .next
        { s with memory := { s.memory with
            trimToSave := none
            geometry := if s.geometryDamaged then s.memory.geometry else { s.memory.geometry with savedTrim := v } } }) ∧
    (∀ v t, s.memory.trimToSave = some v →
      t = readRecord .geometry { s with memory := { s.memory with trimToSave := none } } →
      (t.geometryDamaged = true → exec .savedTrimWrite s = .next t) ∧
      (t.geometryDamaged = false →
        exec .savedTrimWrite s = .next
          { t with memory := { t.memory with
              geometry := { t.memory.geometry with savedTrim := v }
              flips := t.memory.flips.filter (fun b => !decide (b.ref = .geometry) || !Config.savedTrimWord b.word) } }))

/-- R186, R187, R191: a cold reset, the warm reset at the negation of PFAIL (after the saved trim is written) and the request
RESET each run the one reset sequence, after what leaves the part at its edges around them (the characters of a trim message
and the bytes of transfers); RESET alone leaves a response. PFAIL asserted while a reset is in progress stands asserted at
its end: the steps before its assertion run without it, the others under it (log entry 15). Asserted after the last step it
changes nothing else; asserted before the steps that restore the tables, on a clean image, it leaves every record as it was,
no transfer started and no trim handed over (log entry 15). The last clause, on `State.reset`, rests on the image that log
entry 8 chooses. -/
def Obligations.ResetsRunTheResetSequence : Prop :=
  (∀ (s : State) (c : ResetCourse),
    exec (.coldReset c) s = .next { (s.edgesAtReset c).resetPart true c.pfailFrom with port := .empty } ∧
    (s.pfail = false →
      exec (.pfailNegate c) s = .next s ∧
      exec (.reset c) s = .next
        { (State.edgesAtReset { s.framed 0 with port := .building } c).resetPart false c.pfailFrom with
          port := .ready (responseFrame .ok []) }) ∧
    (s.pfail = true →
      exec (.pfailNegate c) s = .next
        { (s.writeSavedTrim.edgesAtReset c).resetPart false c.pfailFrom with port := .empty })) ∧
  (∀ (s : State) (cold : Bool) (p : Option Nat), (s.resetPart cold p).pfail = p.isSome) ∧
  (∀ (s : State) (cold : Bool) (i : Nat),
    s.resetPart cold (some i) =
      { ((resetSteps cold).drop i).foldl (fun t f => f { t with pfail := true })
          (((resetSteps cold).take i).foldl (fun t f => f { t with pfail := false })
            ((s.beforeScan cold).resetVolatile cold)) with pfail := true } ∧
    (974 ≤ i → s.resetPart cold (some i) = { s.resetPart cold none with pfail := true })) ∧
  (∀ (s t : State) (cold : Bool) (i : Nat), s.clean → i ≤ 97 → t = s.resetPart cold (some i) →
    t.memory.geometry = s.memory.geometry ∧ t.memory.jobRecs = s.memory.jobRecs ∧
    t.memory.laneRecs = s.memory.laneRecs ∧ t.memory.stackRecs = s.memory.stackRecs ∧
    t.memory.counterRecs = s.memory.counterRecs ∧ t.memory.trimToSave = none ∧ t.shuttle.state = .idle) ∧
  exec (.coldReset ResetCourse.quiet) State.reset = .next State.reset

/-- R22, R41, R59, R60, R77, R99, R116, R165, R172, R177, R179, R181, R184, R187: what the reset sequence leaves, with PFAIL
left alone. On an image in which no word holds more than two flipped bits, the scan corrects, writes back and counts every
word with one, in each record that is not marked and has no word with two, and raises RECORD_CORRECTED for them; it makes the
damage rewrite of each record found with such a word, and raises RECORD_DAMAGED; a marked record keeps its bits. The rest of
the reset is then that of the image so left. On a clean image: the fixed reset values of the position unit, the ring, the
receiver, the lanes, the modes and the attention logic, with RECORD_DAMAGED raised for a geometry, job, lane or counter
record that carries its mark; the working copies from the geometry record, or the defaults of R60 with a capacity not below
the queue (R159) when it is marked; F16 and T by the kind of reset, T 0 when that record is marked; each counter's
configuration from its record, its values kept at a warm reset unless the mark puts it off; ENDING slots EMPTY. -/
def Obligations.ResetSequenceRestoresVolatileState : Prop :=
  (∀ (s v : State) (cold : Bool) (found : RecordRef → Bool) (fixed : List (RecordRef × Nat))
      (flipped : RecordRef → Nat → Nat),
    s.memory.flips.Nodup →
    (∀ ref w,
      flipped ref w = (s.memory.flips.filter (fun f => decide (f.ref = ref ∧ f.word = w))).length ∧ flipped ref w ≤ 2) →
    (∀ ref, found ref = true ↔ s.marked ref = false ∧ ∃ w, w < ref.words ∧ flipped ref w = 2) →
    fixed.Nodup →
    (∀ ref w, (ref, w) ∈ fixed ↔ s.marked ref = false ∧ found ref = false ∧ w < ref.words ∧ flipped ref w = 1) →
    v =
      { s with memory := { s.memory with
          flips := []
          geometry :=
            if found .geometry then
              { damaged := true
                settings :=
                  { pNom := 0, wMark := 0, lossLimit := 0, dDie := 0, wDie := 0, oCut := 0, dGate := 0, lMin := 0, lMax := 0,
                    upstream := 0, lead := 0, trail := 0, rRev := 0, filterShift := 0, gain := 0, slew := 0, lTrim := 0,
                    tol := 0, wOut := 0, nSettle := 0, capacity := 0, watermark := 0, shuttleTimeout := 0, jamLimit := 0,
                    arbiter := .strict, inspection := .required, verdictRate := .b115200, trimRate := .b115200 }
                savedTrim := 0 }
            else s.memory.geometry
          jobRecs := vtab (fun j => if found (.job j) then JobRecord.zero .damaged else s.memory.jobRecs[j])
          laneRecs := vtab (fun l =>
            if found (.lane l) then
              { damaged := true, enabled := false, slot := none, origin := 0, priority := 0, weight := 0 }
            else s.memory.laneRecs[l])
          stackRecs := vtab (fun n =>
            if found (.stack n) then StackRecord.zero (.quarantined .damaged) else s.memory.stackRecs[n])
          counterRecs := vtab (fun c =>
            if found (.counter c) then
              { damaged := true, laneSet := 0, mask := 0, unit := .label, mode := .window, window := 0, threshold := 0,
                action := .attn }
            else s.memory.counterRecs[c]) } } →
    ∀ u : State, u = v.resetPart cold none →
      s.resetPart cold none =
        { u with
            memory := { u.memory with
              flips := s.memory.flips.filter (fun f => s.marked f.ref)
              corrected := satAdd u.memory.corrected fixed.length }
            attention := { u.attention with latched :=
              u.attention.latched ||| (if allRecords.any found then Attention.recordDamaged.set else 0) |||
                (if fixed = [] then 0 else Attention.recordCorrected.set) } }) ∧
  (∀ (s t : State) (cold : Bool), s.clean → s.resetPart cold none = t →
    t.position = PositionUnit.reset ∧ t.ring = Ring.reset ∧ t.verdict = VerdictReceiver.reset ∧
    t.register =
      RegisterUnit.reset (if cold then 0 else s.register.f16)
        (if s.memory.geometry.damaged then 0 else if cold then s.memory.geometry.savedTrim else s.register.trim) ∧
    t.backLandings = 0 ∧ t.modes = { mode := .parked, target := .park } ∧
    t.attention =
      { latched :=
          if s.memory.geometry.damaged = true ∨ (∃ j : JobSlot, s.memory.jobRecs[j].state = .damaged) ∨
              (∃ l : Lane, s.memory.laneRecs[l].damaged = true) ∨
              (∃ c : CounterNo, s.memory.counterRecs[c].damaged = true) then
            Attention.recordDamaged.set
          else 0
        enabled := 0x0FFF
        qualityStop := false } ∧
    t.work =
      (if s.memory.geometry.damaged then { Settings.default with capacity := max 12 t.queue.entries.length }
        else s.memory.geometry.settings) ∧
    t.pfail = false ∧
    t.memory.geometry = s.memory.geometry ∧ t.memory.laneRecs = s.memory.laneRecs ∧
    t.memory.counterRecs = s.memory.counterRecs ∧ t.memory.flips = [] ∧ t.memory.damagedSet = [] ∧
    t.memory.scrub = 0 ∧ t.memory.trimToSave = none ∧
    t.memory.corrected = (if cold then 0 else s.memory.corrected) ∧
    (∀ j : JobSlot, t.memory.jobRecs[j] =
      if s.memory.jobRecs[j].state = .ending then { s.memory.jobRecs[j] with state := .empty }
      else s.memory.jobRecs[j]) ∧
    (∀ c : CounterNo, t.counters[c] =
      if cold = true ∨ s.memory.counterRecs[c].damaged = true then
        { config := s.memory.counterRecs[c], working := 0, published := 0, rows := 0 }
      else { s.counters[c] with config := s.memory.counterRecs[c] }) ∧
    (∀ l : Lane, ∀ runs : Prop,
      (runs ↔ (s.memory.laneRecs[l]).damaged = false ∧ (s.memory.laneRecs[l]).enabled = true ∧
        ∃ j, (s.memory.laneRecs[l]).slot = some j ∧
          (s.memory.jobRecs[j]).state = .active ∧ (s.memory.jobRecs[j]).serialized = false) →
      (runs → t.lanes[l] = { LaneUnit.reset with run := .active }) ∧ (¬runs → t.lanes[l] = LaneUnit.reset))) ∧
  Settings.default =
    { pNom := 30000, wMark := 600, lossLimit := 3, dDie := 120000, wDie := 2000, oCut := 0, dGate := 150000, lMin := 4000
      lMax := 20000, upstream := 0, lead := 1000, trail := 1000, rRev := 2000, filterShift := 2, gain := 8, slew := 50
      lTrim := 4000, tol := 30, wOut := 400, nSettle := 8, capacity := 12, watermark := 9, shuttleTimeout := 2000
      jamLimit := 2, arbiter := .strict, inspection := .required, verdictRate := .b460800, trimRate := .b460800 }

/-- R138, R139, R158, R159, R187: what the reset sequence makes of the stack records, on a clean image (what the scan makes
of any other is stated beside). An OPEN record stays OPEN, RESUMED, with the landed labels as its committed ones and its
serials restarted from the last landed; but the lowest-numbered OPEN record of a lane whose lane record carries its mark is
sealed with LANE_OFF. A record in TRANSFER becomes QUARANTINED with cause TRANSFER; FREE, DELIVERED and QUARANTINED records
keep what they hold. A SEALED record, or one so sealed, is restored as an OPEN one and completed: FREE with nothing landed;
HELD when its lane holds a READY record or completed one of a lower number; else READY, with SHORT below its target. A READY
record stays, and the lane's HELD record is pushed when the lane is left with no READY record. Each lane left with a READY
record that it did not have has pulsed its PUSH line once, in ascending order of the lanes. The delivery queue holds the
DELIVERED records and nothing else, in the order of their delivery sequences when these lie within half their range, and the
next sequence follows the last. The shuttle is IDLE with every credit at its lane's weight (1 for a marked lane record) and
no last winner; then the arbiter tests for a grant. R138 and R139 know one OPEN and one HELD record of a lane: that of
several the lowest-numbered is sealed or pushed, and the others stay as they are, is the model's choice (log entry 16); so is
that the record sealed with LANE_OFF is completed in its place among the lane's SEALED records, not at its seal (log entry
39). -/
def Obligations.ResetSequenceRestoresStacksAndQueue : Prop :=
  ∀ (s t : State) (cold : Bool), s.clean → s.resetPart cold none = t →
    ∀ off : StackNo → Prop,
    (∀ n, off n ↔ (s.memory.stackRecs[n]).state = .opened ∧
      ∃ l : Lane, (s.memory.stackRecs[n]).lane = l.val + 1 ∧ (s.memory.laneRecs[l]).damaged = true ∧
        ∀ m, m < n → ¬((s.memory.stackRecs[m]).state = .opened ∧ (s.memory.stackRecs[m]).lane = l.val + 1)) →
    (∀ n : StackNo,
      ((s.memory.stackRecs[n]).state = .opened → ¬off n →
        t.memory.stackRecs[n] =
          { s.memory.stackRecs[n] with
              committed := (s.memory.stackRecs[n]).landed
              lost := 0
              flags := { (s.memory.stackRecs[n]).flags with resumed := true }
              serial := (s.memory.stackRecs[n]).serial.map (fun sp =>
                match sp.lastLanded with
                | some k => { sp with lastCommitted := some k }
                | none => { sp with first := none, lastCommitted := none, gaps := [] }) }) ∧
      ((s.memory.stackRecs[n]).state = .transfer →
        t.memory.stackRecs[n] = { s.memory.stackRecs[n] with state := .quarantined .transfer }) ∧
      ((s.memory.stackRecs[n]).state = .free ∨ (s.memory.stackRecs[n]).state = .delivered ∨
          (∃ c, (s.memory.stackRecs[n]).state = .quarantined c) →
        t.memory.stackRecs[n] = s.memory.stackRecs[n]) ∧
      (some n ∈ t.queue.entries ↔ (s.memory.stackRecs[n]).state = .delivered)) ∧
    none ∉ t.queue.entries ∧ (t.queue.entries.filterMap id).Nodup ∧
    (∀ base : BitVec 32,
      (∀ (n : StackNo) (q : BitVec 32), (s.memory.stackRecs[n]).state = .delivered →
        (s.memory.stackRecs[n]).deliverySeq = some q → (q - base).toNat < 2147483648) →
      (∀ n : StackNo, (s.memory.stackRecs[n]).state = .delivered → (s.memory.stackRecs[n]).deliverySeq ≠ none) →
      t.queue.entries.Pairwise (fun a b => ∀ (n m : StackNo) (q r : BitVec 32), a = some n → b = some m →
        (s.memory.stackRecs[n]).deliverySeq = some q → (s.memory.stackRecs[m]).deliverySeq = some r → ¬posBefore r q)) ∧
    (t.queue.entries = [] → t.queue.nextSeq = 0) ∧
    (∀ (front : List (Option StackNo)) (n : StackNo) (q : BitVec 32), t.queue.entries = front ++ [some n] →
      (s.memory.stackRecs[n]).deliverySeq = some q → t.queue.nextSeq = q + 1) ∧
    ∀ ready held moved : Lane → StackNo → Prop,
      (∀ l m, ready l m ↔ (s.memory.stackRecs[m]).state = .ready ∧ (s.memory.stackRecs[m]).lane = l.val + 1) →
      (∀ l m, held l m ↔ (s.memory.stackRecs[m]).state = .held ∧ (s.memory.stackRecs[m]).lane = l.val + 1) →
      (∀ l m, moved l m ↔ ((s.memory.stackRecs[m]).state = .sealed ∨ off m) ∧ (s.memory.stackRecs[m]).lane = l.val + 1 ∧
        (s.memory.stackRecs[m]).landed ≠ 0) →
      ∀ pushed : Lane → Bool,
        (∀ l, pushed l = true ↔ (∀ m, ¬ready l m) ∧ ∃ m, moved l m ∨ held l m) →
        ∃ u : State,
          t.memory = u.grant.memory ∧ t.shuttle = u.grant.shuttle ∧ t.outputs = u.grant.outputs ∧
          u.queue = t.queue ∧ u.work = t.work ∧ u.pfail = false ∧ u.memory.flips = [] ∧
          u.memory.damagedSet = [] ∧ u.memory.laneRecs = s.memory.laneRecs ∧
          u.outputs = ((List.finRange 12).filter pushed).reverse.map Output.push ++ s.outputs ∧
          u.shuttle =
            { state := .idle
              credits := vtab (fun l => if (s.memory.laneRecs[l]).damaged then 1 else (s.memory.laneRecs[l]).weight)
              lastWinner := none, faults := 0, timeouts := 0, lateDones := 0, strayHandshakes := 0, strayTakes := 0
              powerFailTakes := if cold then 0 else s.shuttle.powerFailTakes } ∧
          ∀ (n : StackNo) (l : Lane), (s.memory.stackRecs[n]).lane = l.val + 1 →
            ((s.memory.stackRecs[n]).state = .ready → u.memory.stackRecs[n] = s.memory.stackRecs[n]) ∧
            ((s.memory.stackRecs[n]).state = .held →
              ((∃ m, ready l m ∨ moved l m) → u.memory.stackRecs[n] = s.memory.stackRecs[n]) ∧
              ((∀ m, ¬ready l m ∧ ¬moved l m) → (∀ m, m < n → ¬held l m) →
                u.memory.stackRecs[n] = { s.memory.stackRecs[n] with state := .ready })) ∧
            ∀ r : StackRecord,
              ((s.memory.stackRecs[n]).state = .sealed → r = restoredForming (s.memory.stackRecs[n])) →
              (off n →
                r =
                  { restoredForming (s.memory.stackRecs[n]) with state := .sealed, sealReason := some .laneOff }) →
              ((s.memory.stackRecs[n]).state = .sealed ∨ off n → (s.memory.stackRecs[n]).landed = 0 →
                u.memory.stackRecs[n] = { r with state := .free }) ∧
              (∀ f : StackFlags, f = { r.flags with short := r.flags.short || decide (r.landed < r.target) } → moved l n →
                ((∃ m, ready l m ∨ moved l m ∧ m < n) → u.memory.stackRecs[n] = { r with state := .held, flags := f }) ∧
                ((∀ m, ¬ready l m ∧ (moved l m → n ≤ m)) →
                  u.memory.stackRecs[n] = { r with state := .ready, flags := f }))

/-! ## Requests (R61, R62, R74, R91, R101 to R115, R132 to R136, R148, R155, R161, R170, R171, R175, R176, R189 to R198) -/

/-- R175, R176, R194: STATUS, taken even while PFAIL is asserted, clears the latched causes named in its mask, and the
quality-stop latch when asked, after its response is built; one with a level cause in the mask, a bad flag byte or a
page beyond 3 is ERR_ARG. The pages are laid out as R194 gives them. ATTENTION MASK sets the enabled set and answers it
with the pending set. -/
def Obligations.StatusClearsAndMaskEnables : Prop :=
  (∀ (s : State) (mask : BitVec 16) (quality page : Byte),
    (mask &&& 0xFF00 = 0 → quality = 0 ∨ quality = 1 → page.toNat ≤ 3 →
      ∀ t : State,
        t =
          { s.framed 4 with attention := { s.attention with
              latched := s.attention.latched &&& ~~~mask
              qualityStop := s.attention.qualityStop && decide (quality = 0) } } →
        exec (.status mask quality page) s = .next
          { t with port := .ready (responseFrame .ok
              (beBytes 2 s.pendingSet.toNat ++ beBytes 2 s.attention.enabled.toNat ++
                [ byteOf (s.modes.mode.code + 4 * bitsOf [decide (s.modes.target = .run), s.pfail, t.stopReq, s.slowReq,
                    s.attention.qualityStop, t.attention.qualityStop]),
                  byteOf (bitsOf t.stopReasons), page ] ++ statusPage s page)) }) ∧
    (mask &&& 0xFF00 ≠ 0 ∨ (quality ≠ 0 ∧ quality ≠ 1) ∨ 3 < page.toNat →
      exec (.status mask quality page) s = .next { s.framed 4 with port := .ready (responseFrame .errArg []) })) ∧
  (∀ (s : State) (enabled : BitVec 16), s.pfail = false →
    (enabled &&& 0xF000 = 0 →
      exec (.attentionMask enabled) s = .next
        { s.framed 2 with
            attention := { s.attention with enabled := enabled }
            port := .ready (responseFrame .ok (beBytes 2 enabled.toNat ++ beBytes 2 s.pendingSet.toNat)) }) ∧
    (enabled &&& 0xF000 ≠ 0 →
      exec (.attentionMask enabled) s = .next { s.framed 2 with port := .ready (responseFrame .errArg []) })) ∧
  (∀ s : State,
    statusPage s 0 =
      beBytes 4 s.position.position.toNat ++ beBytes 4 s.position.highWater.toNat ++
      [byteOf (bitsOf [s.position.expectation.isSome, s.position.zone.isSome, decide (s.ring.openCount ≠ 0)])] ++
      beBytes 4 (s.position.expectation.getD 0).toNat ++ [byteOf s.position.consecutiveSynthetic.toNat] ++
      beBytes 4 (s.position.zone.getD (0, 0)).1.toNat ++ beBytes 4 (s.position.zone.getD (0, 0)).2.toNat ++
      beBytes 4 s.ring.next.toNat ++ [byteOf s.ring.openCount] ++
      beBytes 4 (if s.ring.openCount = 0 then 0 else (s.ring.next - BitVec.ofNat 32 s.ring.openCount).toNat) ++
      be32s s.register.f16 ++ be16s s.register.trim ++ [byteOf s.register.settle] ++ be16s s.work.oCut ∧
    statusPage s 1 =
      [ s.position.encoderErrors, s.position.earlyMarks, s.position.backMarks, s.position.idleMarks,
        s.position.syntheticRows, s.position.reverses, s.position.splices, s.verdict.merged, s.verdict.malformed,
        s.verdict.late, s.verdict.unknown, s.register.strayIndex, s.register.backIndex, s.register.missedCuts,
        s.register.outliers, s.register.overruns, s.backLandings, s.shuttle.faults, s.shuttle.timeouts,
        s.shuttle.lateDones, s.shuttle.strayHandshakes, s.shuttle.strayTakes, s.shuttle.powerFailTakes ].flatMap
          (fun c => beBytes 2 c.toNat) ∧
    statusPage s 2 =
      s.lanes.toList.map (fun u => u.run.byte) ++
      [byteOf ((List.finRange 64).countP (fun n => decide ((s.stack n).state = .free))), byteOf s.shuttle.state.code] ++
      (match s.shuttle.state with
        | .moving l n _ => [byteOf (l.val + 1), byteOf n.val]
        | _ => [0, 0xFF]) ++
      [ byteOf s.queue.entries.length, byteOf (s.queue.entries.countP Option.isNone),
        match s.queue.entries with
        | [] => 0xFF
        | none :: _ => 0xFE
        | some n :: _ => byteOf n.val ] ++
      beBytes 4 s.queue.nextSeq.toNat ++ s.shuttle.credits.toList.map byteOf ++
      [match s.shuttle.lastWinner with | none => 0 | some l => byteOf (l.val + 1)] ∧
    statusPage s 3 =
      s.counters.toList.flatMap (fun k =>
        beBytes 2 k.working.toNat ++ beBytes 2 k.published.toNat ++ beBytes 2 k.rows) ++
      beBytes 2 s.memory.corrected.toNat ++ [byteOf s.memory.scrub, flagByte s.geometryDamaged] ++
      beBytes 2 (bitsOf ((List.finRange 16).map (fun j => s.isDamaged (.job j)))) ++
      beBytes 2 (bitsOf ((List.finRange 12).map (fun l => s.isDamaged (.lane l)))) ++
      [ byteOf (bitsOf ((List.finRange 4).map (fun c => s.isDamaged (.counter c)))),
        byteOf ((List.finRange 64).countP (fun n => decide ((s.stack n).state = .quarantined .damaged))) ])

/-- R5, R161, R164, R72: MODE RUN takes PARKED and DRAINING to SEEK with the settle count 0, leaves SEEK, raises
MODE_REACHED in TRACKING, and is ERR_DAMAGED while the geometry record is damaged. MODE PARK takes SEEK and TRACKING to
DRAINING with the expectation UNSYNCED (and on to PARKED at once when no row is open), leaves DRAINING, and raises
MODE_REACHED in PARKED. That a reverse event which is due (R5), kept in the field `reverseDue`, no longer occurs once the
line has entered DRAINING is the model's (log entries 3 and 26). -/
def Obligations.ModeRequestsMoveTheLine : Prop :=
  ∀ s : State, s.pfail = false →
    (s.geometryDamaged = true →
      exec .modeRun s = .next { s.framed 1 with port := .ready (responseFrame .errDamaged []) }) ∧
    (s.geometryDamaged = false →
      (s.modes.mode = .parked ∨ s.modes.mode = .draining →
        exec .modeRun s = .next
          { s.framed 1 with
              modes := { mode := .seek, target := .run }
              register := { s.register with settle := 0 }
              port := .ready (responseFrame .ok [1, 1]) }) ∧
      (s.modes.mode = .seek →
        exec .modeRun s = .next { s.framed 1 with port := .ready (responseFrame .ok [1, byteOf s.modes.target.code]) }) ∧
      (s.modes.mode = .tracking →
        exec .modeRun s = .next
          { s.framed 1 with
              attention := { s.attention with latched := s.attention.latched ||| Attention.modeReached.set }
              port := .ready (responseFrame .ok [2, byteOf s.modes.target.code]) })) ∧
    (s.modes.mode = .parked →
      exec .modePark s = .next
        { s.framed 1 with
            attention := { s.attention with latched := s.attention.latched ||| Attention.modeReached.set }
            port := .ready (responseFrame .ok [0, byteOf s.modes.target.code]) }) ∧
    (s.modes.mode = .draining →
      exec .modePark s = .next { s.framed 1 with port := .ready (responseFrame .ok [3, byteOf s.modes.target.code]) }) ∧
    (s.modes.mode = .seek ∨ s.modes.mode = .tracking →
      (s.ring.openCount ≠ 0 →
        exec .modePark s = .next
          { s.framed 1 with
              modes := { mode := .draining, target := .park }
              position := { s.position with expectation := none, reverseDue := false }
              port := .ready (responseFrame .ok [3, 0]) }) ∧
      (s.clean → s.ring.openCount = 0 →
        exec .modePark s = .next
          { s.framed 1 with
              modes := { mode := .parked, target := .park }
              position := { s.position with expectation := none, reverseDue := false }
              lanes := vtab (fun l => { s.lanes[l] with gate := .waste })
              memory := { s.memory with geometry :=
                if s.geometryDamaged then s.memory.geometry
                else { s.memory.geometry with savedTrim := s.register.trim } }
              attention := { s.attention with latched := s.attention.latched ||| Attention.modeReached.set }
              port := .ready (responseFrame .ok [0, 0]) }))

/-- R60, R61, R155, R42, R143, R36: GEOMETRY WRITE, taken only in PARKED, replaces the geometry record and every working
copy, clamps T and the saved trim to ±L_trim, empties the verdict receiver into HUNT, reloads the credits, forgets the
last winner and tests for a grant; a value out of range or a failed row check is ERR_ARG, a capacity below the queue
ERR_STATE. The ranges are those of R60. OFFSET NUDGE moves O_cut, clamped to ±4,000, and answers it with whether it was
clamped. -/
def Obligations.GeometryWriteReplacesRecordAndNudgeMovesOffset : Prop :=
  (∀ (s : State) (p : GeometryPayload), s.pfail = false →
    (s.modes.mode ≠ .parked →
      exec (.geometryWrite p) s = .next { s.framed 51 with port := .ready (responseFrame .errState []) }) ∧
    (s.modes.mode = .parked → GeometryPayload.settings p = none →
      exec (.geometryWrite p) s = .next { s.framed 51 with port := .ready (responseFrame .errArg []) }) ∧
    (∀ g, s.modes.mode = .parked → GeometryPayload.settings p = some g →
      (g.inRange = false ∨ 118 * (g.pNom - g.wMark) < g.dGate + g.lMax →
        exec (.geometryWrite p) s = .next { s.framed 51 with port := .ready (responseFrame .errArg []) }) ∧
      (g.inRange = true → g.dGate + g.lMax ≤ 118 * (g.pNom - g.wMark) →
        (g.capacity < s.queue.entries.length + s.shuttle.state.inTransfer →
          exec (.geometryWrite p) s = .next { s.framed 51 with port := .ready (responseFrame .errState []) }) ∧
        (s.sound → s.queue.entries.length + s.shuttle.state.inTransfer ≤ g.capacity →
          exec (.geometryWrite p) s = .next
            { State.grant
                { s.framed 51 with
                    port := .building
                    memory := { s.memory with geometry :=
                      { damaged := false
                        settings := g
                        savedTrim := max (-(g.lTrim : Int)) (min g.lTrim
                          (if s.memory.geometry.damaged then s.register.trim else s.memory.geometry.savedTrim)) } }
                    register := { s.register with
                      trim := max (-(g.lTrim : Int)) (min g.lTrim s.register.trim) }
                    work := g
                    verdict := { s.verdict with state := .hunt, kept := [], count := 0, spoiled := false }
                    shuttle := { s.shuttle with
                      credits := vtab (fun l => (s.laneRec l).weight), lastWinner := none } } with
              port := .ready (responseFrame .ok []) })))) ∧
  (∀ g : Settings, g.inRange = true ↔
    2000 ≤ g.pNom ∧ g.pNom ≤ 65000 ∧ 16 ≤ g.wMark ∧ g.wMark ≤ g.pNom / 4 ∧ 1 ≤ g.lossLimit ∧ g.lossLimit ≤ 8 ∧
    1000 ≤ g.dDie ∧ g.dDie ≤ 1000000 ∧ 16 ≤ g.wDie ∧ g.wDie ≤ g.pNom / 2 ∧ -4000 ≤ g.oCut ∧ g.oCut ≤ 4000 ∧
    g.dDie + g.wDie + 1 ≤ g.dGate ∧ g.dGate ≤ 1200000 ∧ g.lMin ≤ 60000 ∧ g.lMin + 64 ≤ g.lMax ∧ g.lMax ≤ 60000 ∧
    g.upstream ≤ 1000000 ∧ g.lead ≤ 65000 ∧ g.trail ≤ 65000 ∧ 16 ≤ g.rRev ∧ g.rRev ≤ 65535 ∧ g.filterShift ≤ 6 ∧
    g.gain ≤ 16 ∧ 1 ≤ g.slew ∧ g.slew ≤ 1000 ∧ 1 ≤ g.lTrim ∧ g.lTrim ≤ 16000 ∧ 1 ≤ g.tol ∧ g.tol ≤ 4000 ∧
    g.tol ≤ g.wOut ∧ g.wOut ≤ 32767 ∧ 1 ≤ g.nSettle ∧ g.nSettle ≤ 32 ∧ 1 ≤ g.capacity ∧ g.capacity ≤ 24 ∧
    1 ≤ g.watermark ∧ g.watermark ≤ g.capacity ∧ 100 ≤ g.shuttleTimeout ∧ g.shuttleTimeout ≤ 10000 ∧
    1 ≤ g.jamLimit ∧ g.jamLimit ≤ 8) ∧
  (∀ (p : GeometryPayload) (g : Settings), GeometryPayload.settings p = some g ↔
    p.arbiter.toNat = g.arbiter.code ∧ p.inspection.toNat = g.inspection.code ∧
    p.verdictRate.toNat = g.verdictRate.code ∧ p.trimRate.toNat = g.trimRate.code ∧
    g =
      { g with
          pNom := p.pNom.toNat, wMark := p.wMark.toNat, lossLimit := p.lossLimit.toNat, dDie := p.dDie.toNat
          wDie := p.wDie.toNat, oCut := p.oCut.toInt, dGate := p.dGate.toNat, lMin := p.lMin.toNat
          lMax := p.lMax.toNat, upstream := p.upstream.toNat, lead := p.lead.toNat, trail := p.trail.toNat
          rRev := p.rRev.toNat, filterShift := p.filterShift.toNat, gain := p.gain.toNat, slew := p.slew.toNat
          lTrim := p.lTrim.toNat, tol := p.tol.toNat, wOut := p.wOut.toNat, nSettle := p.nSettle.toNat
          capacity := p.capacity.toNat, watermark := p.watermark.toNat
          shuttleTimeout := p.shuttleTimeout.toNat, jamLimit := p.jamLimit.toNat }) ∧
  (∀ (s : State) (delta : BitVec 16), s.sound →
    (s.memory.geometry.damaged = true →
      exec (.offsetNudge delta) s = .next { s.framed 2 with port := .ready (responseFrame .errDamaged []) }) ∧
    (s.memory.geometry.damaged = false →
      ∀ sum o : Int, sum = s.memory.geometry.settings.oCut + delta.toInt → o = max (-4000) (min 4000 sum) →
        (delta = 0 →
          exec (.offsetNudge delta) s = .next
            { s.framed 2 with port := .ready (responseFrame .ok (be16s o ++ [flagByte (decide (sum ≠ o))])) }) ∧
        (delta ≠ 0 →
          exec (.offsetNudge delta) s = .next
            { s.framed 2 with
                memory := { s.memory with geometry := { s.memory.geometry with
                  settings := { s.memory.geometry.settings with oCut := o } } }
                work := { s.work with oCut := o }
                port := .ready (responseFrame .ok (be16s o ++ [flagByte (decide (sum ≠ o))])) })))

/-- R101 to R106: JOB WRITE. On a sound part, a well-formed write to an EMPTY or DAMAGED slot makes it ACTIVE with the
fields carried and the first ordinal, or 1, and tests the lanes that name it; one to the ACTIVE slot of the same id
replaces its fields and keeps the next ordinal when 0 is carried. It is ERR_STATE for an ENDING slot, another id in the
slot, an id held by another live slot, a referenced DAMAGED slot, and when the serial rule or the gap limit carried
breaks what lanes, rows or OPEN stacks of the slot rest on; a value out of the ranges of R101 is ERR_ARG. JOB END makes
an ACTIVE slot ENDING while an open row references it, and else EMPTY. -/
def Obligations.JobWriteStartsOrChangesAndJobEndEnds : Prop :=
  (∀ (s : State) (p : JobPayload) (j : JobSlot) (mode : SerialMode) (q : JobRecord), s.sound →
    p.sampleEnable = 0 ∨ p.sampleEnable = 1 → p.slot.toNat = j.val → p.serialMode.toNat = mode.code →
    JobPayload.inRange p = true →
    (∀ keep : BitVec 16,
      keep = (if (s.job j).state = .active then (s.job j).nextOrdinal else 1) →
      q =
        { state := .active, jobId := p.jobId, name := p.name, target := p.target.toNat, serialMode := mode
          step := p.step.toNat, gapLimit := p.gapLimit.toNat, sampleEnable := decide (p.sampleEnable = 1)
          sampleValue := p.sampleValue.setWidth 6, sampleMask := p.sampleMask.setWidth 6
          nextOrdinal := if p.firstOrdinal = 0 then keep else p.firstOrdinal } →
      (∀ rule : Prop, (rule ↔ (s.job j).serialMode = mode ∧ (s.job j).step = p.step.toNat) →
        ((s.job j).state = .empty ∨ (s.job j).state = .damaged →
          ((∃ k : JobSlot, k ≠ j ∧ ((s.job k).state = .active ∨ (s.job k).state = .ending) ∧ (s.job k).jobId = p.jobId) ∨
              ((s.job j).state = .damaged ∧ s.slotReferenced j = true) ∨
              (∃ n, (s.stack n).state = .opened ∧ (s.stack n).slot = j ∧ (s.stack n).jobId = p.jobId ∧
                ((s.job j).state = .damaged ∨ ¬rule)) →
            exec (.jobWrite p) s = .next { s.framed 29 with port := .ready (responseFrame .errState []) }) ∧
          ((∀ k : JobSlot, k ≠ j → (s.job k).state = .active ∨ (s.job k).state = .ending → (s.job k).jobId ≠ p.jobId) →
            ((s.job j).state = .damaged → s.slotReferenced j = false) →
            (∀ n, (s.stack n).state = .opened → (s.stack n).slot = j → (s.stack n).jobId = p.jobId →
              (s.job j).state = .empty ∧ rule) →
            exec (.jobWrite p) s = .next
              { (s.framed 29).setJob j q with
                  lanes := vtab (fun l =>
                    if (s.laneRec l).slot = some j then
                      { s.lanes[l] with
                          run :=
                            runAfterTest
                              (decide ((s.laneRec l).enabled = true ∧ (mode = .none ∨ s.lanes[l].rowOrigin ≠ .none)))
                              s.lanes[l].run }
                    else s.lanes[l])
                  port := .ready (responseFrame .ok [1]) })) ∧
        ((s.job j).state = .active →
          ((s.job j).jobId ≠ p.jobId ∨
              (¬rule ∧ ((∃ l, (s.laneRec l).slot = some j) ∨ s.slotReferenced j = true ∨
                ∃ n, (s.stack n).state = .opened ∧ (s.stack n).slot = j)) ∨
              (∃ n sp, (s.stack n).state = .opened ∧ (s.stack n).slot = j ∧ (s.stack n).jobId = p.jobId ∧
                (s.stack n).serial = some sp ∧ p.gapLimit.toNat < sp.foreseen) →
            exec (.jobWrite p) s = .next { s.framed 29 with port := .ready (responseFrame .errState []) }) ∧
          ((s.job j).jobId = p.jobId →
            rule ∨ ((∀ l, (s.laneRec l).slot ≠ some j) ∧ s.slotReferenced j = false ∧
              ∀ n, (s.stack n).state = .opened → (s.stack n).slot ≠ j) →
            (∀ n sp, (s.stack n).state = .opened → (s.stack n).slot = j → (s.stack n).jobId = p.jobId →
              (s.stack n).serial = some sp → sp.foreseen ≤ p.gapLimit.toNat) →
            exec (.jobWrite p) s = .next { (s.framed 29).setJob j q with port := .ready (responseFrame .ok [1]) }))) ∧
      ((s.job j).state = .ending →
        exec (.jobWrite p) s = .next { s.framed 29 with port := .ready (responseFrame .errState []) }))) ∧
  (∀ (s : State) (p : JobPayload), s.pfail = false →
    (p.sampleEnable ≠ 0 ∧ p.sampleEnable ≠ 1) ∨ 16 ≤ p.slot.toNat ∨ 3 ≤ p.serialMode.toNat ∨
        JobPayload.inRange p = false →
    exec (.jobWrite p) s = .next { s.framed 29 with port := .ready (responseFrame .errArg []) }) ∧
  (∀ p : JobPayload, JobPayload.inRange p = true ↔
    p.jobId ≠ 0 ∧ 1 ≤ p.target.toNat ∧ p.target.toNat ≤ 9999 ∧ 1 ≤ p.step.toNat ∧ p.step.toNat ≤ 16 ∧
    p.gapLimit.toNat ≤ 6 ∧ p.sampleValue.toNat ≤ 63 ∧ p.sampleMask.toNat ≤ 63 ∧ p.name.length = 16 ∧
    ∃ k : Nat, ∀ (i : Nat) (c : Byte), p.name[i]? = some c →
      (i < k → 0x20 ≤ c.toNat ∧ c.toNat ≤ 0x7E) ∧ (k ≤ i → c = 0)) ∧
  (∀ (s : State) (b : Byte), s.sound →
    (16 ≤ b.toNat → exec (.jobEnd b) s = .next { s.framed 1 with port := .ready (responseFrame .errArg []) }) ∧
    (∀ j : JobSlot, b.toNat = j.val →
      ((s.job j).state ≠ .active →
        exec (.jobEnd b) s = .next { s.framed 1 with port := .ready (responseFrame .errState []) }) ∧
      ((s.job j).state = .active → s.slotReferenced j = true →
        exec (.jobEnd b) s = .next
          { (s.framed 1).setJob j { s.job j with state := .ending } with port := .ready (responseFrame .ok [2]) }) ∧
      ((s.job j).state = .active → s.slotReferenced j = false →
        exec (.jobEnd b) s = .next
          { (s.framed 1).setJob j { s.job j with state := .empty } with
              lanes := vtab (fun l =>
                if s.laneNames l j then
                  { s.lanes[l] with
                      rowOrigin := .none, run := if s.lanes[l].run = .jammed then .jammed else .off }
                else s.lanes[l])
              port := .ready (responseFrame .ok [0]) })))

/-- R88, R91, R109, R110: LANE WRITE, on a sound part, replaces the lane record (keeping the serial origin when none is
carried), sets the row origin to PENDING with an origin carried, keeps it when the slot written is the one named before, and
else (another slot, none, or a record that was damaged) makes it NONE, and tests the running condition: a lane that meets it
runs, any other but a JAMMED one is OFF and has its OPEN stack sealed with LANE_OFF. LANE CLEAR takes a JAMMED lane back to
ACTIVE or OFF and seals its OPEN stack when asked; it is ERR_STATE for any other lane. The ranges are those of R109:
priority 0 to 15, weight 1, 2, 4 or 8, a serial origin up to 99,999,999. -/
def Obligations.LaneWriteConfiguresAndLaneClearUnjams : Prop :=
  (∀ (s : State) (l : Lane) (holds : Bool),
    (holds = true ↔
      (s.laneRec l).enabled = true ∧ ∃ j, (s.laneRec l).slot = some j ∧
        ((s.job j).state = .active ∨ (s.job j).state = .ending) ∧
        ((s.job j).serialized = true → s.lanes[l].rowOrigin ≠ .none)) →
    s.retestLane l =
      { s with lanes := vset s.lanes l { s.lanes[l] with run :=
          match s.lanes[l].run with
          | .jammed => .jammed
          | .blocked c => if holds then .blocked c else .off
          | _ => if holds then .active else .off } }) ∧
  (∀ (s : State) (p : LanePayload) (l : Lane) (slot : Option JobSlot), s.sound →
    p.lane.toNat = l.val + 1 → (slot = none ∧ p.slot = 0xFF ∨ ∃ j : JobSlot, slot = some j ∧ p.slot.toNat = j.val) →
    p.enabled = 0 ∨ p.enabled = 1 → p.originPresent = 0 ∨ p.originPresent = 1 → LanePayload.inRange p = true →
    ∀ t : State,
      t =
        State.retestLane
          { (s.framed 10).setLaneRec l
              { damaged := false
                enabled := decide (p.enabled = 1)
                slot := slot
                origin := if p.originPresent = 1 then p.origin.toNat else s.memory.laneRecs[l].origin
                priority := p.priority.toNat
                weight := p.weight.toNat } with
              lanes := vset s.lanes l { s.lanes[l] with rowOrigin :=
                if p.originPresent = 1 then .pending
                else if s.memory.laneRecs[l].damaged = false ∧ s.memory.laneRecs[l].slot = slot ∧ slot ≠ none then
                  s.lanes[l].rowOrigin
                else .none }
              port := .building } l →
      (t.runningCondition l = true ∨ t.openOf l = none →
        exec (.laneWrite p) s = .next
          { t with port := .ready (responseFrame .ok [byteOf t.lanes[l].run.code, 0xFF]) }) ∧
      (∀ n u, t.runningCondition l = false → t.openOf l = some n →
        u = State.completeTest (t.setStack n { t.stack n with state := .sealed, sealReason := some .laneOff }) n →
        exec (.laneWrite p) s = .next
          { u with port := .ready (responseFrame .ok [byteOf u.lanes[l].run.code, byteOf n.val]) })) ∧
  (∀ (s : State) (b close : Byte), s.sound → (close = 0 ∨ close = 1) → ∀ l : Lane, b.toNat = l.val + 1 →
    (s.lanes[l].run ≠ .jammed →
      exec (.laneClear b close) s = .next { s.framed 2 with port := .ready (responseFrame .errState []) }) ∧
    (s.lanes[l].run = .jammed →
      ∀ t : State,
        t =
          { s.framed 2 with
              lanes := vset s.lanes l
                { s.lanes[l] with
                    consecutiveLost := 0, run := if s.runningCondition l then .active else .off }
              port := .building } →
        (close = 0 ∨ s.openOf l = none →
          exec (.laneClear b close) s = .next
            { t with port := .ready (responseFrame .ok [byteOf t.lanes[l].run.code, 0xFF]) }) ∧
        (∀ n u, close = 1 → s.openOf l = some n →
          u = State.completeTest (t.setStack n { t.stack n with state := .sealed, sealReason := some .close }) n →
          exec (.laneClear b close) s = .next
            { u with port := .ready (responseFrame .ok [byteOf u.lanes[l].run.code, byteOf n.val]) }))) ∧
  (∀ p : LanePayload, LanePayload.inRange p = true ↔
    p.priority.toNat ≤ 15 ∧ (p.weight = 1 ∨ p.weight = 2 ∨ p.weight = 4 ∨ p.weight = 8) ∧
    (p.originPresent = 1 → p.origin.toNat ≤ 99999999)) ∧
  (∀ (s : State) (p : LanePayload) (b close : Byte), s.pfail = false →
    (p.lane.toNat = 0 ∨ 12 < p.lane.toNat ∨ (15 < p.slot.toNat ∧ p.slot ≠ 0xFF) ∨ 1 < p.enabled.toNat ∨
        1 < p.originPresent.toNat ∨ LanePayload.inRange p = false →
      exec (.laneWrite p) s = .next { s.framed 10 with port := .ready (responseFrame .errArg []) }) ∧
    (b.toNat = 0 ∨ 12 < b.toNat ∨ 1 < close.toNat →
      exec (.laneClear b close) s = .next { s.framed 2 with port := .ready (responseFrame .errArg []) }))

/-- R135, R136, R148, R170: STACK CLOSE seals the lane's OPEN record with CLOSE and answers its number and state; STACK
TARGET sets an OPEN record's target to no less than its committed count, and seals it with TARGET when they are equal;
SHUTTLE CLEAR takes a FAULTED shuttle to IDLE and answers the grant that follows; COUNTER WRITE replaces a counter's
configuration, within the codes and the window lengths of R166, and sets its values to 0. What these requests refuse is
answered ERR_ARG or ERR_STATE. The state answered is the one before a grant of the same event, READY rather than TRANSFER:
by R135 for STACK CLOSE, by the model's choice for STACK TARGET (log entry 29). -/
def Obligations.StackShuttleAndCounterRequestsTakeEffect : Prop :=
  ∀ s : State, s.sound →
    (∀ (b : Byte) (l : Lane), b.toNat = l.val + 1 →
      (s.openOf l = none →
        exec (.stackClose b) s = .next { s.framed 1 with port := .ready (responseFrame .errState []) }) ∧
      (∀ n t, s.openOf l = some n →
        t = State.completeTest
          { (s.framed 1).setStack n { s.stack n with state := .sealed, sealReason := some .close } with
              port := .building } n →
        exec (.stackClose b) s = .next
          { t with port := .ready (responseFrame .ok
              [byteOf n.val, if (t.stack n).state = .transfer then 4 else byteOf (t.stack n).state.code]) })) ∧
    (∀ b : Byte, b.toNat = 0 ∨ 12 < b.toNat →
      exec (.stackClose b) s = .next { s.framed 1 with port := .ready (responseFrame .errArg []) }) ∧
    (∀ (b : Byte) (v : BitVec 16) (n : StackNo), b.toNat = n.val →
      ((s.stack n).state ≠ .opened →
        exec (.stackTarget b v) s = .next { s.framed 3 with port := .ready (responseFrame .errState []) }) ∧
      ((s.stack n).state = .opened →
        (v.toNat = 0 ∨ 9999 < v.toNat ∨ v.toNat < (s.stack n).committed →
          exec (.stackTarget b v) s = .next { s.framed 3 with port := .ready (responseFrame .errArg []) }) ∧
        (1 ≤ v.toNat → v.toNat ≤ 9999 → (s.stack n).committed < v.toNat →
          exec (.stackTarget b v) s = .next
            { (s.framed 3).setStack n { s.stack n with target := v.toNat } with
                port := .ready (responseFrame .ok (beBytes 2 v.toNat ++ [1])) }) ∧
        (∀ t, 1 ≤ v.toNat → v.toNat ≤ 9999 → (s.stack n).committed = v.toNat →
          t = State.completeTest
            { (s.framed 3).setStack n
                { s.stack n with target := v.toNat, state := .sealed, sealReason := some .target } with
              port := .building } n →
          exec (.stackTarget b v) s = .next
            { t with port := .ready (responseFrame .ok (beBytes 2 (t.stack n).target ++
                [if (t.stack n).state = .transfer then 4 else byteOf (t.stack n).state.code])) }))) ∧
    (∀ (b : Byte) (v : BitVec 16), 64 ≤ b.toNat →
      exec (.stackTarget b v) s = .next { s.framed 3 with port := .ready (responseFrame .errArg []) }) ∧
    (s.shuttle.state = .faulted →
      ∀ t, t = State.grant { s.framed 0 with shuttle := { s.shuttle with state := .idle }, port := .building } →
        exec .shuttleClear s = .next
          { t with port := .ready (responseFrame .ok (match t.shuttle.state with
              | .moving l n _ => [byteOf (l.val + 1), byteOf n.val]
              | _ => [0, 0xFF])) }) ∧
    (s.shuttle.state ≠ .faulted →
      exec .shuttleClear s = .next { s.framed 0 with port := .ready (responseFrame .errState []) }) ∧
    (∀ (p : CounterPayload) (c : CounterNo) (cfg : CounterConfig), p.counter.toNat = c.val →
      p.laneSet &&& 0xF000 = 0 → p.mask &&& 0x8000 = 0 → CounterPayload.config p = some cfg →
      exec (.counterWrite p) s = .next
        { (s.framed 12).setCounterRec c cfg with
            counters := vset s.counters c { config := cfg, working := 0, published := 0, rows := 0 }
            port := .ready (responseFrame .ok []) }) ∧
    (∀ p : CounterPayload, 4 ≤ p.counter.toNat ∨ p.laneSet &&& 0xF000 ≠ 0 ∨ p.mask &&& 0x8000 ≠ 0 ∨
        CounterPayload.config p = none →
      exec (.counterWrite p) s = .next { s.framed 12 with port := .ready (responseFrame .errArg []) }) ∧
    (∀ (p : CounterPayload) (cfg : CounterConfig), CounterPayload.config p = some cfg ↔
      p.unit.toNat = cfg.unit.code ∧ p.mode.toNat = cfg.mode.code ∧ p.action.toNat = cfg.action.code ∧
      (cfg.mode = .window → 16 ≤ p.window.toNat ∧ p.window.toNat ≤ 4096) ∧
      cfg =
        { cfg with
            damaged := false, laneSet := p.laneSet, mask := p.mask
            window := if cfg.mode = .window then p.window.toNat else 0, threshold := p.threshold.toNat })

/-- R37, R62, R107, R115, R132, R171, R195: on a clean image the read requests answer their record or table and change
nothing else; GEOMETRY READ and JOB READ of a damaged record are ERR_DAMAGED, an argument out of range or a tag of no
row ERR_ARG. The payloads are laid out as R193 and R198 give them, numbers most significant byte first, enumerations by the
codes of R192. That a record QUARANTINED with cause DAMAGED is reported with its stack number, where R132 has every other field
zero, is the model's reading (log entry 17). -/
def Obligations.ReadRequestsChangeOnlyTheResponse : Prop :=
  (∀ s : State, s.clean → s.pfail = false →
    exec .geometryRead s = .next
      { s.framed 0 with
          port := .ready (if s.geometryDamaged then responseFrame .errDamaged []
            else responseFrame .ok (geometryBytes s.memory.geometry)) } ∧
    (∀ b : Byte,
      (∀ j : JobSlot, b.toNat = j.val →
        exec (.jobRead b) s = .next
          { s.framed 1 with
              port := .ready (if (s.job j).state = .damaged then responseFrame .errDamaged []
                else responseFrame .ok (jobReadBytes s j)) }) ∧
      (16 ≤ b.toNat → exec (.jobRead b) s = .next { s.framed 1 with port := .ready (responseFrame .errArg []) }) ∧
      (∀ l : Lane, b.toNat = l.val + 1 →
        exec (.laneRead b) s = .next { s.framed 1 with port := .ready (responseFrame .ok (laneReadBytes s l)) }) ∧
      (b.toNat = 0 ∨ 12 < b.toNat →
        exec (.laneRead b) s = .next { s.framed 1 with port := .ready (responseFrame .errArg []) }) ∧
      (∀ c : CounterNo, b.toNat = c.val →
        exec (.counterRead b) s = .next
          { s.framed 1 with port := .ready (responseFrame .ok (counterReadBytes s c ++ beBytes 2 s.counters[c].working.toNat ++
              beBytes 2 s.counters[c].published.toNat ++ beBytes 2 s.counters[c].rows)) }) ∧
      (4 ≤ b.toNat → exec (.counterRead b) s = .next { s.framed 1 with port := .ready (responseFrame .errArg []) }) ∧
      (∀ n : StackNo, b.toNat = n.val →
        exec (.stackRead b 0) s = .next { s.framed 2 with port := .ready (responseFrame .ok (stackPart0 n (s.stack n))) } ∧
        exec (.stackRead b 1) s = .next { s.framed 2 with port := .ready (responseFrame .ok (stackPart1 (s.stack n))) }) ∧
      (∀ part : Byte, 64 ≤ b.toNat ∨ 1 < part.toNat →
        exec (.stackRead b part) s = .next { s.framed 2 with port := .ready (responseFrame .errArg []) }) ∧
      (∀ r, s.rowAt (Fin.ofNat 128 b.toNat) = some r → r.number.setWidth 8 = b →
        exec (.rowRead b 0) s = .next { s.framed 2 with port := .ready (responseFrame .ok (rowPart0 r)) } ∧
        exec (.rowRead b 1) s = .next { s.framed 2 with port := .ready (responseFrame .ok (rowPart1 r)) }) ∧
      (∀ part : Byte, 1 < part.toNat ∨ (∀ r, s.rowAt (Fin.ofNat 128 b.toNat) = some r → r.number.setWidth 8 ≠ b) →
        exec (.rowRead b part) s = .next { s.framed 2 with port := .ready (responseFrame .errArg []) })) ∧
    (∀ (sel start : Byte) (entries rest : List (Option StackNo)), start.toNat ≤ 63 →
      (sel = 0 → entries = s.queue.entries) →
      (sel = 1 → entries = ((List.finRange 64).filter (fun n => decide ((s.stack n).state ≠ .free))).map some) →
      (sel = 2 → entries =
        ((List.finRange 64).filter (fun n => decide (∃ c ∈ [QuarantineCause.transfer, .damaged],
          (s.stack n).state = .quarantined c))).map some) →
      rest = entries.drop start.toNat → sel.toNat ≤ 2 →
      exec (.stackList sel start) s = .next
        { s.framed 2 with port := .ready (responseFrame .ok
            ([byteOf (min 3 rest.length), flagByte (decide (3 < rest.length))] ++
              (rest.take 3).flatMap (fun e => match e with
                | none => voidSummary
                | some n =>
                  if sel = 0 ∧ (s.stack n).state = .quarantined .damaged then voidSummary
                  else stackSummary n (s.stack n)))) }) ∧
    (∀ sel start : Byte, 2 < sel.toNat ∨ 63 < start.toNat →
      exec (.stackList sel start) s = .next { s.framed 2 with port := .ready (responseFrame .errArg []) })) ∧
  (∀ k v : Nat, (beBytes k v).length = k ∧
    ∀ (i : Nat) (b : Byte), (beBytes k v)[i]? = some b → b.toNat = v / 256 ^ (k - 1 - i) % 256) ∧
  (∀ v : Int, be16s v = beBytes 2 (v % 65536).toNat ∧ be32s v = beBytes 4 (v % 4294967296).toNat) ∧
  (∀ g : GeometryRecord, ∀ t, t = g.settings →
    geometryBytes g =
      beBytes 2 t.pNom ++ beBytes 2 t.wMark ++ beBytes 1 t.lossLimit ++ beBytes 3 t.dDie ++ beBytes 2 t.wDie ++
      be16s t.oCut ++ beBytes 3 t.dGate ++ beBytes 2 t.lMin ++ beBytes 2 t.lMax ++ beBytes 4 t.upstream ++
      beBytes 2 t.lead ++ beBytes 2 t.trail ++ beBytes 2 t.rRev ++ beBytes 1 t.filterShift ++ beBytes 1 t.gain ++
      beBytes 2 t.slew ++ beBytes 2 t.lTrim ++ beBytes 2 t.tol ++ beBytes 2 t.wOut ++ beBytes 1 t.nSettle ++
      beBytes 1 t.capacity ++ beBytes 1 t.watermark ++ beBytes 2 t.shuttleTimeout ++ beBytes 1 t.jamLimit ++
      beBytes 1 t.arbiter.code ++ beBytes 1 t.inspection.code ++ beBytes 1 t.verdictRate.code ++
      beBytes 1 t.trimRate.code ++ be16s g.savedTrim) ∧
  (∀ (s : State) (j : JobSlot) (r : JobRecord), r = s.job j →
    jobReadBytes s j =
      [byteOf r.state.code] ++ beBytes 2 r.jobId.toNat ++ r.name ++ beBytes 2 r.target ++
      [ byteOf r.serialMode.code, byteOf r.step, byteOf r.gapLimit, flagByte r.sampleEnable,
        byteOf r.sampleValue.toNat, byteOf r.sampleMask.toNat ] ++
      beBytes 2 r.nextOrdinal.toNat ++
      [ byteOf ((List.finRange 12).countP (fun l => decide ((s.laneRec l).slot = some j))),
        byteOf (s.openSlots.countP (fun i => (s.rowAt i).any (fun q =>
          q.lanes.toList.any (fun e => decide (e.snapshot = some j))))),
        byteOf ((List.finRange 64).countP (fun n => decide
          ((s.stack n).state = .opened ∧ (s.stack n).slot = j ∧ (s.stack n).jobId = r.jobId))) ]) ∧
  (∀ (s : State) (l : Lane) (r : LaneRecord) (u : LaneUnit) (sealed : List StackNo),
    r = s.memory.laneRecs[l] → u = s.lanes[l] →
    sealed = (List.finRange 64).filter (fun n =>
      decide ((s.stack n).state = .sealed) && decide ((s.stack n).lane = l.val + 1)) →
    ∀ number : Option StackNo → Byte, (∀ n, number (some n) = byteOf n.val) → number none = 0xFF →
      laneReadBytes s l =
        (if s.isDamaged (.lane l) then (1 :: List.replicate 8 0 : List Byte)
        else
          [0, flagByte r.enabled, match r.slot with | none => 0xFF | some j => byteOf j.val] ++ beBytes 4 r.origin ++
            [byteOf r.priority, byteOf r.weight]) ++
        (match u.rowOrigin with
          | .none => 0 :: beBytes 4 0
          | .pending => 1 :: beBytes 4 0
          | .row q => 2 :: beBytes 4 q.toNat) ++
        [flagByte (s.runningCondition l)] ++
        [ match u.run with
          | .off => 0
          | .active => 1
          | .blocked .slots => 2 + 4 * 1
          | .blocked .noRecord => 2 + 4 * 2
          | .jammed => 3,
          u.consecutiveLost, byteOf (causeCode u.skipCause), flagByte u.skipRow.isSome ] ++
        beBytes 4 (match u.skipRow with | none => 0 | some q => q.toNat) ++ beBytes 2 u.stray.toNat ++
        [byteOf u.gate.code] ++
        [number (s.openOf l), number sealed[0]?, number sealed[1]?, number (s.heldOf l), number (s.readyOf l)]) ∧
  (∀ (n : StackNo) (r q : StackRecord) (head : List Byte),
    q = (if r.state = .quarantined .damaged then StackRecord.zero (.quarantined .damaged) else r) →
    head =
      [ byteOf n.val,
        byteOf (q.state.code + (if q.state = .quarantined .damaged then 8 else 0) +
          (if q.serial.isSome then 16 else 0) + 32 * sealCode q.sealReason),
        byteOf (q.lane + 16 * q.slot.val),
        byteOf (bitsOf [q.flags.short, q.flags.resumed, q.flags.lateReject, q.flags.suspect, q.flags.gapsIncomplete,
          q.deliverySeq.isSome]) ] ++
      beBytes 2 q.jobId.toNat ++ beBytes 2 q.ordinal.toNat ++ beBytes 2 q.target ++ beBytes 2 q.committed ++
      beBytes 2 q.landed ++ beBytes 2 q.lost ++ [q.lateRejects] →
    stackSummary n r = head ++ [byteOf (min q.stray.toNat 255)] ∧
    stackPart0 n r =
      head ++ beBytes 2 q.stray.toNat ++ beBytes 4 (match q.deliverySeq with | none => 0 | some v => v.toNat) ∧
    (q.serial = none → stackPart1 r = beBytes 4 (15 * 2 ^ 27) ++ List.replicate 56 0) ∧
    (∀ sp, q.serial = some sp →
      stackPart1 r =
        beBytes 4 ((sp.first.getD 0x7FFFFFF) + 2 ^ 27 * sp.gaps.length + (if q.flags.gapsIncomplete then 2 ^ 31 else 0)) ++
        beBytes 4 ((sp.lastCommitted.getD 0x7FFFFFF) + 2 ^ 27 * sp.foreseen) ++
        beBytes 4 (sp.lastLanded.getD 0x7FFFFFF) ++
        (sp.gaps.take 8).flatMap (fun g =>
          beBytes 4 (g.start + 2 ^ 27 * causeCode (some g.cause)) ++ beBytes 2 g.length) ++
        List.replicate (6 * (8 - sp.gaps.length)) 0)) ∧
  voidSummary = 0xFF :: List.replicate 17 0 ∧
  (∀ r : RowRecord,
    rowPart0 r =
      beBytes 4 r.number.toNat ++
      [ byteOf (r.phase.code + 4 * bitsOf
          [ decide (r.phase = .retired) || decide (r.phase = .decided) &&
              r.lanes.toList.all (fun e => decide (e.landing ≠ .awaiting)),
            decide (r.origin = .synthetic), r.dieIndex.isSome, r.rawError.isSome ]),
        byteOf (bitsOf [r.flags.splice, r.flags.misreg, r.flags.miscut, r.flags.marklost, r.flags.settling,
          r.flags.reverse, r.flags.trimLimit, r.flags.trimHeld]) ] ++
      beBytes 4 r.mark.toNat ++ beBytes 4 r.expected.toNat ++
      beBytes 4 (match r.dieIndex with | none => 0 | some p => p.toNat) ++ be16s (r.rawError.getD 0) ++
      r.lanes.toList.flatMap (fun e =>
        [ match e.snapshot with | none => 16 | some j => byteOf j.val,
          byteOf (e.camera.code + (if e.manual then 4 else 0) + 8 * e.disposition.code + 32 * e.landing.code),
          match e.disposition with
          | .waste w => byteOf w.code
          | .stack n => byteOf n.val
          | _ => 0 ]) ∧
    rowPart1 r =
      beBytes 4 r.number.toNat ++ beBytes 2 (bitsOf ((List.finRange 12).map (fun l => r.lanes[l].serial.isSome))) ++
      r.lanes.toList.flatMap (fun e => beBytes 4 (e.serial.getD 0))) ∧
  (∀ (s : State) (c : CounterNo) (k : CounterConfig), k = s.memory.counterRecs[c] →
    counterReadBytes s c =
      if s.isDamaged (.counter c) then 1 :: List.replicate 11 0
      else
        0 :: (beBytes 2 k.laneSet.toNat ++ beBytes 2 k.mask.toNat ++ [byteOf k.unit.code, byteOf k.mode.code] ++
          beBytes 2 k.window ++ beBytes 2 k.threshold ++ [byteOf k.action.code])) ∧
  ([LineMode.parked, .seek, .tracking, .draining].map LineMode.code = [0, 1, 2, 3] ∧
    [TargetMode.park, .run].map TargetMode.code = [0, 1] ∧
    [RunState.off, .active, .blocked .slots, .blocked .noRecord, .jammed].map RunState.code = [0, 1, 2, 2, 3] ∧
    [RunState.off, .active, .blocked .slots, .blocked .noRecord, .jammed].map RunState.byte = [0, 1, 6, 10, 3] ∧
    [SlotState.empty, .active, .ending, .damaged].map SlotState.code = [0, 1, 2, 3] ∧
    [SerialMode.none, .up, .down].map SerialMode.code = [0, 1, 2] ∧
    [StackState.free, .opened, .sealed, .held, .ready, .transfer, .delivered, .quarantined .transfer,
      .quarantined .damaged].map StackState.code = [0, 1, 2, 3, 4, 5, 6, 7, 7] ∧
    [none, some SealReason.target, some .close, some .gapLimit, some .serialBreak, some .jobChange, some .jobEnd,
      some .laneOff].map sealCode = [0, 1, 2, 3, 4, 5, 6, 7] ∧
    [WasteReason.laneOff, .jam, .reverse, .marklost, .settling, .splice, .miscut, .misreg, .print, .blank, .manual,
      .noverdict, .blocked].map WasteReason.code = [1, 2, 3, 4, 5, 6, 7, 8, 9, 10, 11, 12, 13] ∧
    (∀ w : WasteReason, causeCode (some (.waste w)) = w.code) ∧
    [none, some Cause.sample, some .lost, some .resume].map causeCode = [0, 14, 15, 16] ∧
    [Disposition.undecided, .stack 0, .waste .jam, .sample].map Disposition.code = [0, 1, 2, 3] ∧
    [Gate.stack, .waste, .sample].map Gate.code = [1, 2, 3] ∧
    [Camera.pending, .good, .print, .blank].map Camera.code = [0, 1, 2, 3] ∧
    [Landing.none, .awaiting, .landed, .lost].map Landing.code = [0, 1, 2, 3] ∧
    [Phase.opened, .cut, .decided, .retired].map Phase.code = [0, 1, 2, 3] ∧
    [ShuttleState.idle, .moving 0 0 0, .faulted].map ShuttleState.code = [0, 1, 2] ∧
    [ArbiterMode.strict, .weighted].map ArbiterMode.code = [0, 1] ∧
    [InspectionMode.required, .advisory].map InspectionMode.code = [0, 1] ∧
    [LinkRate.b115200, .b230400, .b460800, .b921600].map LinkRate.code = [0, 1, 2, 3] ∧
    [CounterUnit.label, .row].map CounterUnit.code = [0, 1] ∧ [CounterMode.window, .accumulate].map CounterMode.code = [0, 1] ∧
    [CounterAction.attn, .stop].map CounterAction.code = [0, 1])

/-- R189 to R191, R193: every transfer shifts out what the port holds: the ready response from its first byte and 0x00 after
it, and 0x00 when none is ready. Bytes that do not begin with 0x5A are a read transfer's. A frame that is not 0x5A, code,
length up to 60, as many payload bytes and the check byte over code, length and payload is ERR_FRAME; an unknown code is
ERR_CODE; a wrong payload length is ERR_ARG; a sound frame acts as the request of its code (log entry 22), whose payload has
the length and the fields of R193. The response leaves the port once a read transfer has shifted out its check byte. A
transfer under way at a reset shifts out what the port held, 0x00 while the reset is in progress, and then a free value when
the reset cut a response short (log entry 25), else 0x00; one that begins during the reset shifts out 0x00; neither has
another effect. Of a trim message being sent a reset lets out the characters begun (R77; log entry 14). A response is 0xA5,
status, length, payload and the check byte over the last three; the status values are 0x00 to 0x07; the check byte is the
CRC-8 of the generator x^8 + x^2 + x + 1, started at 0 and taken most significant bit first. -/
def Obligations.PortJudgesFramesAndShiftsOutResponses : Prop :=
  (∀ (s : State),
     exec (.refusedFrame []) s = .next s ∧
     (∀ bytes : List Byte, bytes.head? ≠ some 0x5A →
       exec (.refusedFrame bytes) s = exec (.responseRead bytes.length) s) ∧
     (∀ bytes : List Byte, bytes.head? = some 0x5A →
       (¬∃ (code : Byte) (p : List Byte), p.length ≤ 60 ∧
         bytes = 0x5A :: code :: byteOf p.length :: (p ++ [crc8 (code :: byteOf p.length :: p)])) →
       exec (.refusedFrame bytes) s = .next
         { s.clocked bytes.length with port := .ready (responseFrame .errFrame []) }) ∧
     (∀ (code : Byte) (p bytes : List Byte), p.length ≤ 60 →
       bytes = 0x5A :: code :: byteOf p.length :: (p ++ [crc8 (code :: byteOf p.length :: p)]) →
       (requestLength code.toNat = none →
         exec (.refusedFrame bytes) s = .next
           { s.clocked bytes.length with port := .ready (responseFrame .errCode []) }) ∧
       (∀ len, requestLength code.toNat = some len →
         (p.length = len → exec (.refusedFrame bytes) s = takeRequest code.toNat p s) ∧
         (p.length ≠ len → s.pfail = false ∨ code = 1 →
           exec (.refusedFrame bytes) s = .next
             { s.clocked bytes.length with port := .ready (responseFrame .errArg []) }) ∧
         (p.length ≠ len → s.pfail = true → code ≠ 1 →
           exec (.refusedFrame bytes) s = .next
             { s.clocked bytes.length with port := .ready (responseFrame .errPower []) })))) ∧
  (∀ (s : State) (n : Nat),
     s.framed n = s.clocked (n + 4) ∧
     (∀ frame, s.port = .ready frame →
       s.clocked n =
         { s with
             outputs :=
               .sdo (if n < frame.length then frame.take n else frame ++ List.replicate (n - frame.length) 0) ::
                 s.outputs }) ∧
     (s.port = .empty ∨ s.port = .building →
       s.clocked n = { s with outputs := .sdo (List.replicate n 0) :: s.outputs }) ∧
     exec (.responseRead 0) s = .next s ∧
     (∀ frame, n ≠ 0 → s.port = .ready frame →
       exec (.responseRead n) s = .next
         { s.clocked n with port := if frame.length ≤ n then .empty else .ready frame }) ∧
     (n ≠ 0 → s.port = .empty ∨ s.port = .building → exec (.responseRead n) s = .next (s.clocked n))) ∧
  (∀ (s : State) (c : ResetCourse), ∃ last : CutTransfer → List Byte,
     (∀ x, (last x).length = x.after) ∧
     (∀ x, s.port = .empty ∨ s.port = .building → last x = List.replicate x.after 0) ∧
     (∀ x frame, s.port = .ready frame → frame.length ≤ x.before → last x = List.replicate x.after 0) ∧
     s.edgesAtReset c =
       { s with
           freeCount := if c.cut.isSome then s.freeCount + 1 else s.freeCount
           outputs := (c.begun.filter (fun n => decide (n ≠ 0))).reverse.map (fun n => Output.sdo (List.replicate n 0)) ++
             (match c.cut with
               | none => []
               | some x => [.sdo (shiftedOut s.port x.before ++ List.replicate x.within 0 ++ last x)]) ++
             (match s.register.sending with
               | none => []
               | some (m, rate) => if c.trimSent = 0 then [] else [.trim ((trimBytes m).take c.trimSent) rate]) ++
             s.outputs }) ∧
  (∀ (st : Status) (payload : List Byte),
     responseFrame st payload =
       0xA5 :: BitVec.ofNat 8 st.code :: BitVec.ofNat 8 payload.length :: (payload ++
         [crc8 (BitVec.ofNat 8 st.code :: BitVec.ofNat 8 payload.length :: payload)])) ∧
  [Status.ok, .errFrame, .errCode, .errArg, .errState, .errNotHead, .errDamaged, .errPower].map Status.code =
    [0x00, 0x01, 0x02, 0x03, 0x04, 0x05, 0x06, 0x07] ∧
  crc8 [] = 0 ∧
  (∀ (bytes : List Byte) (b : Byte) (r : Nat → Byte), r 0 = crc8 bytes ^^^ b →
     (∀ k, r (k + 1) = if (r k).getLsbD 7 then (r k <<< 1) ^^^ 0x07 else r k <<< 1) → crc8 (bytes ++ [b]) = r 8) ∧
  (∀ code : Nat, requestLength code =
     if code = 0x01 then some 4 else if code = 0x02 then some 2 else if code = 0x03 then some 1
     else if code = 0x04 then some 0 else if code = 0x10 then some 51 else if code = 0x11 then some 0
     else if code = 0x12 then some 2 else if code = 0x20 then some 29 else if code = 0x21 then some 1
     else if code = 0x22 then some 1 else if code = 0x30 then some 10 else if code = 0x31 then some 1
     else if code = 0x32 then some 2 else if code = 0x40 then some 2 else if code = 0x41 then some 2
     else if code = 0x42 then some 1 else if code = 0x43 then some 3 else if code = 0x44 then some 2
     else if code = 0x50 then some 2 else if code = 0x51 then some 3 else if code = 0x60 then some 12
     else if code = 0x61 then some 1 else if code = 0x70 then some 0 else none) ∧
  (∀ (s : State) (p : List Byte) (b : Nat → Byte) (be : (w k len : Nat) → BitVec w),
     (∀ k, b k = p.getD k 0) →
     (∀ w k len, be w k len = BitVec.ofNat w (((p.drop k).take len).foldl (fun a x => 256 * a + x.toNat) 0)) →
     takeRequest 0x01 p s = exec (.status (be 16 0 2) (b 2) (b 3)) s ∧
     takeRequest 0x02 p s = exec (.attentionMask (be 16 0 2)) s ∧
     (b 0 = 1 → takeRequest 0x03 p s = exec .modeRun s) ∧
     (b 0 = 2 → takeRequest 0x03 p s = exec .modePark s) ∧
     (b 0 ≠ 1 → b 0 ≠ 2 → takeRequest 0x03 p s = .next
       { s.framed 1 with port := .ready (responseFrame (if s.pfail then .errPower else .errArg) []) }) ∧
     takeRequest 0x04 p s = exec (.reset ResetCourse.quiet) s ∧
     takeRequest 0x10 p s = exec (.geometryWrite
       { pNom := be 16 0 2, wMark := be 16 2 2, lossLimit := b 4, dDie := be 24 5 3, wDie := be 16 8 2
         oCut := be 16 10 2, dGate := be 24 12 3, lMin := be 16 15 2, lMax := be 16 17 2, upstream := be 32 19 4
         lead := be 16 23 2, trail := be 16 25 2, rRev := be 16 27 2, filterShift := b 29, gain := b 30
         slew := be 16 31 2, lTrim := be 16 33 2, tol := be 16 35 2, wOut := be 16 37 2, nSettle := b 39
         capacity := b 40, watermark := b 41, shuttleTimeout := be 16 42 2, jamLimit := b 44, arbiter := b 45
         inspection := b 46, verdictRate := b 47, trimRate := b 48, savedTrim := be 16 49 2 }) s ∧
     takeRequest 0x11 p s = exec .geometryRead s ∧
     takeRequest 0x12 p s = exec (.offsetNudge (be 16 0 2)) s ∧
     takeRequest 0x20 p s = exec (.jobWrite
       { slot := b 0, jobId := be 16 1 2, name := (p.drop 3).take 16, target := be 16 19 2, serialMode := b 21
         step := b 22, gapLimit := b 23, sampleEnable := b 24, sampleValue := b 25, sampleMask := b 26
         firstOrdinal := be 16 27 2 }) s ∧
     takeRequest 0x21 p s = exec (.jobRead (b 0)) s ∧
     takeRequest 0x22 p s = exec (.jobEnd (b 0)) s ∧
     takeRequest 0x30 p s = exec (.laneWrite
       { lane := b 0, enabled := b 1, slot := b 2, priority := b 3, weight := b 4, originPresent := b 5
         origin := be 32 6 4 }) s ∧
     takeRequest 0x31 p s = exec (.laneRead (b 0)) s ∧
     takeRequest 0x32 p s = exec (.laneClear (b 0) (b 1)) s ∧
     takeRequest 0x40 p s = exec (.stackRead (b 0) (b 1)) s ∧
     takeRequest 0x41 p s = exec (.stackList (b 0) (b 1)) s ∧
     takeRequest 0x42 p s = exec (.stackClose (b 0)) s ∧
     takeRequest 0x43 p s = exec (.stackTarget (b 0) (be 16 1 2)) s ∧
     (b 1 = 0 → takeRequest 0x44 p s = exec (.stackRetire (b 0)) s) ∧
     (b 1 = 1 → takeRequest 0x44 p s = exec (.stackRetireAll (b 0)) s) ∧
     (b 1 ≠ 0 → b 1 ≠ 1 → takeRequest 0x44 p s = .next
       { s.framed 2 with port := .ready (responseFrame (if s.pfail then .errPower else .errArg) []) }) ∧
     takeRequest 0x50 p s = exec (.rowRead (b 0) (b 1)) s ∧
     takeRequest 0x51 p s = exec (.rowReject (b 0) (be 16 1 2)) s ∧
     takeRequest 0x60 p s = exec (.counterWrite
       { counter := b 0, laneSet := be 16 1 2, mask := be 16 3 2, unit := b 5, mode := b 6, window := be 16 7 2
         threshold := be 16 9 2, action := b 11 }) s ∧
     takeRequest 0x61 p s = exec (.counterRead (b 0)) s ∧
     takeRequest 0x70 p s = exec .shuttleClear s)
end

