-- ==== Sys2Proof/Laws/State.lean ====
section
/-! SUPPORT. One lemma per field of State for each update, true by `rfl` and tagged `simp`, so that no proof unfolds a record
update. -/

namespace Sys2Proof.Laws

open Sys2Proof Sys2Proof.Machine

/-! ### `setStack` -/

section
variable (s : State) (n : StackNo) (r : StackRecord)
@[simp] theorem setStack_position : (s.setStack n r).position = s.position := rfl
@[simp] theorem setStack_ring : (s.setStack n r).ring = s.ring := rfl
@[simp] theorem setStack_verdict : (s.setStack n r).verdict = s.verdict := rfl
@[simp] theorem setStack_register : (s.setStack n r).register = s.register := rfl
@[simp] theorem setStack_lanes : (s.setStack n r).lanes = s.lanes := rfl
@[simp] theorem setStack_backLandings : (s.setStack n r).backLandings = s.backLandings := rfl
@[simp] theorem setStack_shuttle : (s.setStack n r).shuttle = s.shuttle := rfl
@[simp] theorem setStack_queue : (s.setStack n r).queue = s.queue := rfl
@[simp] theorem setStack_counters : (s.setStack n r).counters = s.counters := rfl
@[simp] theorem setStack_modes : (s.setStack n r).modes = s.modes := rfl
@[simp] theorem setStack_attention : (s.setStack n r).attention = s.attention := rfl
@[simp] theorem setStack_work : (s.setStack n r).work = s.work := rfl
@[simp] theorem setStack_pfail : (s.setStack n r).pfail = s.pfail := rfl
@[simp] theorem setStack_port : (s.setStack n r).port = s.port := rfl
@[simp] theorem setStack_outputs : (s.setStack n r).outputs = s.outputs := rfl
@[simp] theorem setStack_freeCount : (s.setStack n r).freeCount = s.freeCount := rfl
@[simp] theorem setStack_pending : (s.setStack n r).pending = s.pending := rfl
@[simp] theorem setStack_geometry : (s.setStack n r).memory.geometry = s.memory.geometry := rfl
@[simp] theorem setStack_jobRecs : (s.setStack n r).memory.jobRecs = s.memory.jobRecs := rfl
@[simp] theorem setStack_laneRecs : (s.setStack n r).memory.laneRecs = s.memory.laneRecs := rfl
@[simp] theorem setStack_counterRecs : (s.setStack n r).memory.counterRecs = s.memory.counterRecs := rfl
@[simp] theorem setStack_flips : (s.setStack n r).memory.flips = s.memory.flips := rfl
@[simp] theorem setStack_scrub : (s.setStack n r).memory.scrub = s.memory.scrub := rfl
@[simp] theorem setStack_corrected : (s.setStack n r).memory.corrected = s.memory.corrected := rfl
@[simp] theorem setStack_damagedSet : (s.setStack n r).memory.damagedSet = s.memory.damagedSet := rfl
@[simp] theorem setStack_trimToSave : (s.setStack n r).memory.trimToSave = s.memory.trimToSave := rfl
@[simp] theorem setStack_stackRecs : (s.setStack n r).memory.stackRecs = vset s.memory.stackRecs n r := rfl
end

/-! ### `setJob` -/

section
variable (s : State) (j : JobSlot) (r : JobRecord)
@[simp] theorem setJob_position : (s.setJob j r).position = s.position := rfl
@[simp] theorem setJob_ring : (s.setJob j r).ring = s.ring := rfl
@[simp] theorem setJob_verdict : (s.setJob j r).verdict = s.verdict := rfl
@[simp] theorem setJob_register : (s.setJob j r).register = s.register := rfl
@[simp] theorem setJob_lanes : (s.setJob j r).lanes = s.lanes := rfl
@[simp] theorem setJob_backLandings : (s.setJob j r).backLandings = s.backLandings := rfl
@[simp] theorem setJob_shuttle : (s.setJob j r).shuttle = s.shuttle := rfl
@[simp] theorem setJob_queue : (s.setJob j r).queue = s.queue := rfl
@[simp] theorem setJob_counters : (s.setJob j r).counters = s.counters := rfl
@[simp] theorem setJob_modes : (s.setJob j r).modes = s.modes := rfl
@[simp] theorem setJob_attention : (s.setJob j r).attention = s.attention := rfl
@[simp] theorem setJob_work : (s.setJob j r).work = s.work := rfl
@[simp] theorem setJob_pfail : (s.setJob j r).pfail = s.pfail := rfl
@[simp] theorem setJob_port : (s.setJob j r).port = s.port := rfl
@[simp] theorem setJob_outputs : (s.setJob j r).outputs = s.outputs := rfl
@[simp] theorem setJob_freeCount : (s.setJob j r).freeCount = s.freeCount := rfl
@[simp] theorem setJob_pending : (s.setJob j r).pending = s.pending := rfl
@[simp] theorem setJob_geometry : (s.setJob j r).memory.geometry = s.memory.geometry := rfl
@[simp] theorem setJob_laneRecs : (s.setJob j r).memory.laneRecs = s.memory.laneRecs := rfl
@[simp] theorem setJob_stackRecs : (s.setJob j r).memory.stackRecs = s.memory.stackRecs := rfl
@[simp] theorem setJob_counterRecs : (s.setJob j r).memory.counterRecs = s.memory.counterRecs := rfl
@[simp] theorem setJob_flips : (s.setJob j r).memory.flips = s.memory.flips := rfl
@[simp] theorem setJob_scrub : (s.setJob j r).memory.scrub = s.memory.scrub := rfl
@[simp] theorem setJob_corrected : (s.setJob j r).memory.corrected = s.memory.corrected := rfl
@[simp] theorem setJob_damagedSet : (s.setJob j r).memory.damagedSet = s.memory.damagedSet := rfl
@[simp] theorem setJob_trimToSave : (s.setJob j r).memory.trimToSave = s.memory.trimToSave := rfl
@[simp] theorem setJob_jobRecs : (s.setJob j r).memory.jobRecs = vset s.memory.jobRecs j r := rfl
end

/-! ### `setLaneRec` -/

section
variable (s : State) (l : Lane) (r : LaneRecord)
@[simp] theorem setLaneRec_position : (s.setLaneRec l r).position = s.position := rfl
@[simp] theorem setLaneRec_ring : (s.setLaneRec l r).ring = s.ring := rfl
@[simp] theorem setLaneRec_verdict : (s.setLaneRec l r).verdict = s.verdict := rfl
@[simp] theorem setLaneRec_register : (s.setLaneRec l r).register = s.register := rfl
@[simp] theorem setLaneRec_lanes : (s.setLaneRec l r).lanes = s.lanes := rfl
@[simp] theorem setLaneRec_backLandings : (s.setLaneRec l r).backLandings = s.backLandings := rfl
@[simp] theorem setLaneRec_shuttle : (s.setLaneRec l r).shuttle = s.shuttle := rfl
@[simp] theorem setLaneRec_queue : (s.setLaneRec l r).queue = s.queue := rfl
@[simp] theorem setLaneRec_counters : (s.setLaneRec l r).counters = s.counters := rfl
@[simp] theorem setLaneRec_modes : (s.setLaneRec l r).modes = s.modes := rfl
@[simp] theorem setLaneRec_attention : (s.setLaneRec l r).attention = s.attention := rfl
@[simp] theorem setLaneRec_work : (s.setLaneRec l r).work = s.work := rfl
@[simp] theorem setLaneRec_pfail : (s.setLaneRec l r).pfail = s.pfail := rfl
@[simp] theorem setLaneRec_port : (s.setLaneRec l r).port = s.port := rfl
@[simp] theorem setLaneRec_outputs : (s.setLaneRec l r).outputs = s.outputs := rfl
@[simp] theorem setLaneRec_freeCount : (s.setLaneRec l r).freeCount = s.freeCount := rfl
@[simp] theorem setLaneRec_pending : (s.setLaneRec l r).pending = s.pending := rfl
@[simp] theorem setLaneRec_geometry : (s.setLaneRec l r).memory.geometry = s.memory.geometry := rfl
@[simp] theorem setLaneRec_jobRecs : (s.setLaneRec l r).memory.jobRecs = s.memory.jobRecs := rfl
@[simp] theorem setLaneRec_stackRecs : (s.setLaneRec l r).memory.stackRecs = s.memory.stackRecs := rfl
@[simp] theorem setLaneRec_counterRecs : (s.setLaneRec l r).memory.counterRecs = s.memory.counterRecs := rfl
@[simp] theorem setLaneRec_flips : (s.setLaneRec l r).memory.flips = s.memory.flips := rfl
@[simp] theorem setLaneRec_scrub : (s.setLaneRec l r).memory.scrub = s.memory.scrub := rfl
@[simp] theorem setLaneRec_corrected : (s.setLaneRec l r).memory.corrected = s.memory.corrected := rfl
@[simp] theorem setLaneRec_damagedSet : (s.setLaneRec l r).memory.damagedSet = s.memory.damagedSet := rfl
@[simp] theorem setLaneRec_trimToSave : (s.setLaneRec l r).memory.trimToSave = s.memory.trimToSave := rfl
@[simp] theorem setLaneRec_laneRecs : (s.setLaneRec l r).memory.laneRecs = vset s.memory.laneRecs l r := rfl
end

/-! ### `setGeometry` -/

section
variable (s : State) (g : GeometryRecord)
@[simp] theorem setGeometry_position : (s.setGeometry g).position = s.position := rfl
@[simp] theorem setGeometry_ring : (s.setGeometry g).ring = s.ring := rfl
@[simp] theorem setGeometry_verdict : (s.setGeometry g).verdict = s.verdict := rfl
@[simp] theorem setGeometry_register : (s.setGeometry g).register = s.register := rfl
@[simp] theorem setGeometry_lanes : (s.setGeometry g).lanes = s.lanes := rfl
@[simp] theorem setGeometry_backLandings : (s.setGeometry g).backLandings = s.backLandings := rfl
@[simp] theorem setGeometry_shuttle : (s.setGeometry g).shuttle = s.shuttle := rfl
@[simp] theorem setGeometry_queue : (s.setGeometry g).queue = s.queue := rfl
@[simp] theorem setGeometry_counters : (s.setGeometry g).counters = s.counters := rfl
@[simp] theorem setGeometry_modes : (s.setGeometry g).modes = s.modes := rfl
@[simp] theorem setGeometry_attention : (s.setGeometry g).attention = s.attention := rfl
@[simp] theorem setGeometry_work : (s.setGeometry g).work = s.work := rfl
@[simp] theorem setGeometry_pfail : (s.setGeometry g).pfail = s.pfail := rfl
@[simp] theorem setGeometry_port : (s.setGeometry g).port = s.port := rfl
@[simp] theorem setGeometry_outputs : (s.setGeometry g).outputs = s.outputs := rfl
@[simp] theorem setGeometry_freeCount : (s.setGeometry g).freeCount = s.freeCount := rfl
@[simp] theorem setGeometry_pending : (s.setGeometry g).pending = s.pending := rfl
@[simp] theorem setGeometry_jobRecs : (s.setGeometry g).memory.jobRecs = s.memory.jobRecs := rfl
@[simp] theorem setGeometry_laneRecs : (s.setGeometry g).memory.laneRecs = s.memory.laneRecs := rfl
@[simp] theorem setGeometry_stackRecs : (s.setGeometry g).memory.stackRecs = s.memory.stackRecs := rfl
@[simp] theorem setGeometry_counterRecs : (s.setGeometry g).memory.counterRecs = s.memory.counterRecs := rfl
@[simp] theorem setGeometry_flips : (s.setGeometry g).memory.flips = s.memory.flips := rfl
@[simp] theorem setGeometry_scrub : (s.setGeometry g).memory.scrub = s.memory.scrub := rfl
@[simp] theorem setGeometry_corrected : (s.setGeometry g).memory.corrected = s.memory.corrected := rfl
@[simp] theorem setGeometry_damagedSet : (s.setGeometry g).memory.damagedSet = s.memory.damagedSet := rfl
@[simp] theorem setGeometry_trimToSave : (s.setGeometry g).memory.trimToSave = s.memory.trimToSave := rfl
@[simp] theorem setGeometry_geometry : (s.setGeometry g).memory.geometry = g := rfl
end

/-! ### `setCounterRec` -/

section
variable (s : State) (c : CounterNo) (r : CounterConfig)
@[simp] theorem setCounterRec_position : (s.setCounterRec c r).position = s.position := rfl
@[simp] theorem setCounterRec_ring : (s.setCounterRec c r).ring = s.ring := rfl
@[simp] theorem setCounterRec_verdict : (s.setCounterRec c r).verdict = s.verdict := rfl
@[simp] theorem setCounterRec_register : (s.setCounterRec c r).register = s.register := rfl
@[simp] theorem setCounterRec_lanes : (s.setCounterRec c r).lanes = s.lanes := rfl
@[simp] theorem setCounterRec_backLandings : (s.setCounterRec c r).backLandings = s.backLandings := rfl
@[simp] theorem setCounterRec_shuttle : (s.setCounterRec c r).shuttle = s.shuttle := rfl
@[simp] theorem setCounterRec_queue : (s.setCounterRec c r).queue = s.queue := rfl
@[simp] theorem setCounterRec_counters : (s.setCounterRec c r).counters = s.counters := rfl
@[simp] theorem setCounterRec_modes : (s.setCounterRec c r).modes = s.modes := rfl
@[simp] theorem setCounterRec_attention : (s.setCounterRec c r).attention = s.attention := rfl
@[simp] theorem setCounterRec_work : (s.setCounterRec c r).work = s.work := rfl
@[simp] theorem setCounterRec_pfail : (s.setCounterRec c r).pfail = s.pfail := rfl
@[simp] theorem setCounterRec_port : (s.setCounterRec c r).port = s.port := rfl
@[simp] theorem setCounterRec_outputs : (s.setCounterRec c r).outputs = s.outputs := rfl
@[simp] theorem setCounterRec_freeCount : (s.setCounterRec c r).freeCount = s.freeCount := rfl
@[simp] theorem setCounterRec_pending : (s.setCounterRec c r).pending = s.pending := rfl
@[simp] theorem setCounterRec_geometry : (s.setCounterRec c r).memory.geometry = s.memory.geometry := rfl
@[simp] theorem setCounterRec_jobRecs : (s.setCounterRec c r).memory.jobRecs = s.memory.jobRecs := rfl
@[simp] theorem setCounterRec_laneRecs : (s.setCounterRec c r).memory.laneRecs = s.memory.laneRecs := rfl
@[simp] theorem setCounterRec_stackRecs : (s.setCounterRec c r).memory.stackRecs = s.memory.stackRecs := rfl
@[simp] theorem setCounterRec_flips : (s.setCounterRec c r).memory.flips = s.memory.flips := rfl
@[simp] theorem setCounterRec_scrub : (s.setCounterRec c r).memory.scrub = s.memory.scrub := rfl
@[simp] theorem setCounterRec_corrected : (s.setCounterRec c r).memory.corrected = s.memory.corrected := rfl
@[simp] theorem setCounterRec_damagedSet : (s.setCounterRec c r).memory.damagedSet = s.memory.damagedSet := rfl
@[simp] theorem setCounterRec_trimToSave : (s.setCounterRec c r).memory.trimToSave = s.memory.trimToSave := rfl
@[simp] theorem setCounterRec_counterRecs : (s.setCounterRec c r).memory.counterRecs = vset s.memory.counterRecs c r := rfl
end

/-! ### `clearFlips` -/

section
variable (s : State) (ref : RecordRef)
@[simp] theorem clearFlips_position : (s.clearFlips ref).position = s.position := rfl
@[simp] theorem clearFlips_ring : (s.clearFlips ref).ring = s.ring := rfl
@[simp] theorem clearFlips_verdict : (s.clearFlips ref).verdict = s.verdict := rfl
@[simp] theorem clearFlips_register : (s.clearFlips ref).register = s.register := rfl
@[simp] theorem clearFlips_lanes : (s.clearFlips ref).lanes = s.lanes := rfl
@[simp] theorem clearFlips_backLandings : (s.clearFlips ref).backLandings = s.backLandings := rfl
@[simp] theorem clearFlips_shuttle : (s.clearFlips ref).shuttle = s.shuttle := rfl
@[simp] theorem clearFlips_queue : (s.clearFlips ref).queue = s.queue := rfl
@[simp] theorem clearFlips_counters : (s.clearFlips ref).counters = s.counters := rfl
@[simp] theorem clearFlips_modes : (s.clearFlips ref).modes = s.modes := rfl
@[simp] theorem clearFlips_attention : (s.clearFlips ref).attention = s.attention := rfl
@[simp] theorem clearFlips_work : (s.clearFlips ref).work = s.work := rfl
@[simp] theorem clearFlips_pfail : (s.clearFlips ref).pfail = s.pfail := rfl
@[simp] theorem clearFlips_port : (s.clearFlips ref).port = s.port := rfl
@[simp] theorem clearFlips_outputs : (s.clearFlips ref).outputs = s.outputs := rfl
@[simp] theorem clearFlips_freeCount : (s.clearFlips ref).freeCount = s.freeCount := rfl
@[simp] theorem clearFlips_pending : (s.clearFlips ref).pending = s.pending := rfl
@[simp] theorem clearFlips_geometry : (s.clearFlips ref).memory.geometry = s.memory.geometry := rfl
@[simp] theorem clearFlips_jobRecs : (s.clearFlips ref).memory.jobRecs = s.memory.jobRecs := rfl
@[simp] theorem clearFlips_laneRecs : (s.clearFlips ref).memory.laneRecs = s.memory.laneRecs := rfl
@[simp] theorem clearFlips_stackRecs : (s.clearFlips ref).memory.stackRecs = s.memory.stackRecs := rfl
@[simp] theorem clearFlips_counterRecs : (s.clearFlips ref).memory.counterRecs = s.memory.counterRecs := rfl
@[simp] theorem clearFlips_scrub : (s.clearFlips ref).memory.scrub = s.memory.scrub := rfl
@[simp] theorem clearFlips_corrected : (s.clearFlips ref).memory.corrected = s.memory.corrected := rfl
@[simp] theorem clearFlips_damagedSet : (s.clearFlips ref).memory.damagedSet = s.memory.damagedSet := rfl
@[simp] theorem clearFlips_trimToSave : (s.clearFlips ref).memory.trimToSave = s.memory.trimToSave := rfl
@[simp] theorem clearFlips_flips : (s.clearFlips ref).memory.flips = s.memory.flips.filter (fun f => f.ref != ref) := rfl
end

/-! ### `clearWords` -/

section
variable (s : State) (ref : RecordRef) (p : Nat → Bool)
@[simp] theorem clearWords_position : (s.clearWords ref p).position = s.position := rfl
@[simp] theorem clearWords_ring : (s.clearWords ref p).ring = s.ring := rfl
@[simp] theorem clearWords_verdict : (s.clearWords ref p).verdict = s.verdict := rfl
@[simp] theorem clearWords_register : (s.clearWords ref p).register = s.register := rfl
@[simp] theorem clearWords_lanes : (s.clearWords ref p).lanes = s.lanes := rfl
@[simp] theorem clearWords_backLandings : (s.clearWords ref p).backLandings = s.backLandings := rfl
@[simp] theorem clearWords_shuttle : (s.clearWords ref p).shuttle = s.shuttle := rfl
@[simp] theorem clearWords_queue : (s.clearWords ref p).queue = s.queue := rfl
@[simp] theorem clearWords_counters : (s.clearWords ref p).counters = s.counters := rfl
@[simp] theorem clearWords_modes : (s.clearWords ref p).modes = s.modes := rfl
@[simp] theorem clearWords_attention : (s.clearWords ref p).attention = s.attention := rfl
@[simp] theorem clearWords_work : (s.clearWords ref p).work = s.work := rfl
@[simp] theorem clearWords_pfail : (s.clearWords ref p).pfail = s.pfail := rfl
@[simp] theorem clearWords_port : (s.clearWords ref p).port = s.port := rfl
@[simp] theorem clearWords_freeCount : (s.clearWords ref p).freeCount = s.freeCount := rfl
@[simp] theorem clearWords_pending : (s.clearWords ref p).pending = s.pending := rfl
@[simp] theorem clearWords_outputs : (s.clearWords ref p).outputs = s.outputs := rfl
@[simp] theorem clearWords_geometry : (s.clearWords ref p).memory.geometry = s.memory.geometry := rfl
@[simp] theorem clearWords_jobRecs : (s.clearWords ref p).memory.jobRecs = s.memory.jobRecs := rfl
@[simp] theorem clearWords_laneRecs : (s.clearWords ref p).memory.laneRecs = s.memory.laneRecs := rfl
@[simp] theorem clearWords_stackRecs : (s.clearWords ref p).memory.stackRecs = s.memory.stackRecs := rfl
@[simp] theorem clearWords_counterRecs : (s.clearWords ref p).memory.counterRecs = s.memory.counterRecs := rfl
@[simp] theorem clearWords_scrub : (s.clearWords ref p).memory.scrub = s.memory.scrub := rfl
@[simp] theorem clearWords_corrected : (s.clearWords ref p).memory.corrected = s.memory.corrected := rfl
@[simp] theorem clearWords_damagedSet : (s.clearWords ref p).memory.damagedSet = s.memory.damagedSet := rfl
@[simp] theorem clearWords_trimToSave : (s.clearWords ref p).memory.trimToSave = s.memory.trimToSave := rfl
@[simp] theorem clearWords_flips :
    (s.clearWords ref p).memory.flips = s.memory.flips.filter (fun f => !(f.ref == ref && p f.word)) := rfl
end

/-! ### `setLane` -/

section
variable (s : State) (l : Lane) (u : LaneUnit)
@[simp] theorem setLane_position : (s.setLane l u).position = s.position := rfl
@[simp] theorem setLane_ring : (s.setLane l u).ring = s.ring := rfl
@[simp] theorem setLane_verdict : (s.setLane l u).verdict = s.verdict := rfl
@[simp] theorem setLane_register : (s.setLane l u).register = s.register := rfl
@[simp] theorem setLane_backLandings : (s.setLane l u).backLandings = s.backLandings := rfl
@[simp] theorem setLane_shuttle : (s.setLane l u).shuttle = s.shuttle := rfl
@[simp] theorem setLane_queue : (s.setLane l u).queue = s.queue := rfl
@[simp] theorem setLane_counters : (s.setLane l u).counters = s.counters := rfl
@[simp] theorem setLane_modes : (s.setLane l u).modes = s.modes := rfl
@[simp] theorem setLane_attention : (s.setLane l u).attention = s.attention := rfl
@[simp] theorem setLane_memory : (s.setLane l u).memory = s.memory := rfl
@[simp] theorem setLane_work : (s.setLane l u).work = s.work := rfl
@[simp] theorem setLane_pfail : (s.setLane l u).pfail = s.pfail := rfl
@[simp] theorem setLane_port : (s.setLane l u).port = s.port := rfl
@[simp] theorem setLane_outputs : (s.setLane l u).outputs = s.outputs := rfl
@[simp] theorem setLane_freeCount : (s.setLane l u).freeCount = s.freeCount := rfl
@[simp] theorem setLane_pending : (s.setLane l u).pending = s.pending := rfl
@[simp] theorem setLane_lanes : (s.setLane l u).lanes = vset s.lanes l u := rfl
end

/-! ### `setRun` -/

section
variable (s : State) (l : Lane) (r : RunState)
@[simp] theorem setRun_position : (s.setRun l r).position = s.position := rfl
@[simp] theorem setRun_ring : (s.setRun l r).ring = s.ring := rfl
@[simp] theorem setRun_verdict : (s.setRun l r).verdict = s.verdict := rfl
@[simp] theorem setRun_register : (s.setRun l r).register = s.register := rfl
@[simp] theorem setRun_backLandings : (s.setRun l r).backLandings = s.backLandings := rfl
@[simp] theorem setRun_shuttle : (s.setRun l r).shuttle = s.shuttle := rfl
@[simp] theorem setRun_queue : (s.setRun l r).queue = s.queue := rfl
@[simp] theorem setRun_counters : (s.setRun l r).counters = s.counters := rfl
@[simp] theorem setRun_modes : (s.setRun l r).modes = s.modes := rfl
@[simp] theorem setRun_attention : (s.setRun l r).attention = s.attention := rfl
@[simp] theorem setRun_memory : (s.setRun l r).memory = s.memory := rfl
@[simp] theorem setRun_work : (s.setRun l r).work = s.work := rfl
@[simp] theorem setRun_pfail : (s.setRun l r).pfail = s.pfail := rfl
@[simp] theorem setRun_port : (s.setRun l r).port = s.port := rfl
@[simp] theorem setRun_outputs : (s.setRun l r).outputs = s.outputs := rfl
@[simp] theorem setRun_freeCount : (s.setRun l r).freeCount = s.freeCount := rfl
@[simp] theorem setRun_pending : (s.setRun l r).pending = s.pending := rfl
@[simp] theorem setRun_lanes : (s.setRun l r).lanes = vset s.lanes l { s.lanes[l] with run := r } := rfl
end

/-! ### `unblockLanes` -/

section
variable (s : State)
@[simp] theorem unblockLanes_position : (s.unblockLanes).position = s.position := rfl
@[simp] theorem unblockLanes_ring : (s.unblockLanes).ring = s.ring := rfl
@[simp] theorem unblockLanes_verdict : (s.unblockLanes).verdict = s.verdict := rfl
@[simp] theorem unblockLanes_register : (s.unblockLanes).register = s.register := rfl
@[simp] theorem unblockLanes_backLandings : (s.unblockLanes).backLandings = s.backLandings := rfl
@[simp] theorem unblockLanes_shuttle : (s.unblockLanes).shuttle = s.shuttle := rfl
@[simp] theorem unblockLanes_queue : (s.unblockLanes).queue = s.queue := rfl
@[simp] theorem unblockLanes_counters : (s.unblockLanes).counters = s.counters := rfl
@[simp] theorem unblockLanes_modes : (s.unblockLanes).modes = s.modes := rfl
@[simp] theorem unblockLanes_attention : (s.unblockLanes).attention = s.attention := rfl
@[simp] theorem unblockLanes_memory : (s.unblockLanes).memory = s.memory := rfl
@[simp] theorem unblockLanes_work : (s.unblockLanes).work = s.work := rfl
@[simp] theorem unblockLanes_pfail : (s.unblockLanes).pfail = s.pfail := rfl
@[simp] theorem unblockLanes_port : (s.unblockLanes).port = s.port := rfl
@[simp] theorem unblockLanes_outputs : (s.unblockLanes).outputs = s.outputs := rfl
@[simp] theorem unblockLanes_freeCount : (s.unblockLanes).freeCount = s.freeCount := rfl
@[simp] theorem unblockLanes_pending : (s.unblockLanes).pending = s.pending := rfl
end

/-! ### `gatesToWaste` -/

section
variable (s : State)
@[simp] theorem gatesToWaste_position : (s.gatesToWaste).position = s.position := rfl
@[simp] theorem gatesToWaste_ring : (s.gatesToWaste).ring = s.ring := rfl
@[simp] theorem gatesToWaste_verdict : (s.gatesToWaste).verdict = s.verdict := rfl
@[simp] theorem gatesToWaste_register : (s.gatesToWaste).register = s.register := rfl
@[simp] theorem gatesToWaste_backLandings : (s.gatesToWaste).backLandings = s.backLandings := rfl
@[simp] theorem gatesToWaste_shuttle : (s.gatesToWaste).shuttle = s.shuttle := rfl
@[simp] theorem gatesToWaste_queue : (s.gatesToWaste).queue = s.queue := rfl
@[simp] theorem gatesToWaste_counters : (s.gatesToWaste).counters = s.counters := rfl
@[simp] theorem gatesToWaste_modes : (s.gatesToWaste).modes = s.modes := rfl
@[simp] theorem gatesToWaste_attention : (s.gatesToWaste).attention = s.attention := rfl
@[simp] theorem gatesToWaste_memory : (s.gatesToWaste).memory = s.memory := rfl
@[simp] theorem gatesToWaste_work : (s.gatesToWaste).work = s.work := rfl
@[simp] theorem gatesToWaste_pfail : (s.gatesToWaste).pfail = s.pfail := rfl
@[simp] theorem gatesToWaste_port : (s.gatesToWaste).port = s.port := rfl
@[simp] theorem gatesToWaste_outputs : (s.gatesToWaste).outputs = s.outputs := rfl
@[simp] theorem gatesToWaste_freeCount : (s.gatesToWaste).freeCount = s.freeCount := rfl
@[simp] theorem gatesToWaste_pending : (s.gatesToWaste).pending = s.pending := rfl
end

/-! ### `setRow` -/

section
variable (s : State) (i : RingSlot) (r : RowRecord)
@[simp] theorem setRow_position : (s.setRow i r).position = s.position := rfl
@[simp] theorem setRow_verdict : (s.setRow i r).verdict = s.verdict := rfl
@[simp] theorem setRow_register : (s.setRow i r).register = s.register := rfl
@[simp] theorem setRow_lanes : (s.setRow i r).lanes = s.lanes := rfl
@[simp] theorem setRow_backLandings : (s.setRow i r).backLandings = s.backLandings := rfl
@[simp] theorem setRow_shuttle : (s.setRow i r).shuttle = s.shuttle := rfl
@[simp] theorem setRow_queue : (s.setRow i r).queue = s.queue := rfl
@[simp] theorem setRow_counters : (s.setRow i r).counters = s.counters := rfl
@[simp] theorem setRow_modes : (s.setRow i r).modes = s.modes := rfl
@[simp] theorem setRow_attention : (s.setRow i r).attention = s.attention := rfl
@[simp] theorem setRow_memory : (s.setRow i r).memory = s.memory := rfl
@[simp] theorem setRow_work : (s.setRow i r).work = s.work := rfl
@[simp] theorem setRow_pfail : (s.setRow i r).pfail = s.pfail := rfl
@[simp] theorem setRow_port : (s.setRow i r).port = s.port := rfl
@[simp] theorem setRow_outputs : (s.setRow i r).outputs = s.outputs := rfl
@[simp] theorem setRow_freeCount : (s.setRow i r).freeCount = s.freeCount := rfl
@[simp] theorem setRow_pending : (s.setRow i r).pending = s.pending := rfl
@[simp] theorem setRow_ring : (s.setRow i r).ring = { s.ring with slots := vset s.ring.slots i (some r) } := rfl
end

/-! ### `mapUndecided` -/

section
variable (s : State) (f : RowRecord → RowRecord)
@[simp] theorem mapUndecided_position : (s.mapUndecided f).position = s.position := rfl
@[simp] theorem mapUndecided_verdict : (s.mapUndecided f).verdict = s.verdict := rfl
@[simp] theorem mapUndecided_register : (s.mapUndecided f).register = s.register := rfl
@[simp] theorem mapUndecided_lanes : (s.mapUndecided f).lanes = s.lanes := rfl
@[simp] theorem mapUndecided_backLandings : (s.mapUndecided f).backLandings = s.backLandings := rfl
@[simp] theorem mapUndecided_shuttle : (s.mapUndecided f).shuttle = s.shuttle := rfl
@[simp] theorem mapUndecided_queue : (s.mapUndecided f).queue = s.queue := rfl
@[simp] theorem mapUndecided_counters : (s.mapUndecided f).counters = s.counters := rfl
@[simp] theorem mapUndecided_modes : (s.mapUndecided f).modes = s.modes := rfl
@[simp] theorem mapUndecided_attention : (s.mapUndecided f).attention = s.attention := rfl
@[simp] theorem mapUndecided_memory : (s.mapUndecided f).memory = s.memory := rfl
@[simp] theorem mapUndecided_work : (s.mapUndecided f).work = s.work := rfl
@[simp] theorem mapUndecided_pfail : (s.mapUndecided f).pfail = s.pfail := rfl
@[simp] theorem mapUndecided_port : (s.mapUndecided f).port = s.port := rfl
@[simp] theorem mapUndecided_outputs : (s.mapUndecided f).outputs = s.outputs := rfl
@[simp] theorem mapUndecided_freeCount : (s.mapUndecided f).freeCount = s.freeCount := rfl
@[simp] theorem mapUndecided_pending : (s.mapUndecided f).pending = s.pending := rfl
end

/-! ### `emit` -/

section
variable (s : State) (o : Output)
@[simp] theorem emit_position : (s.emit o).position = s.position := rfl
@[simp] theorem emit_ring : (s.emit o).ring = s.ring := rfl
@[simp] theorem emit_verdict : (s.emit o).verdict = s.verdict := rfl
@[simp] theorem emit_register : (s.emit o).register = s.register := rfl
@[simp] theorem emit_lanes : (s.emit o).lanes = s.lanes := rfl
@[simp] theorem emit_backLandings : (s.emit o).backLandings = s.backLandings := rfl
@[simp] theorem emit_shuttle : (s.emit o).shuttle = s.shuttle := rfl
@[simp] theorem emit_queue : (s.emit o).queue = s.queue := rfl
@[simp] theorem emit_counters : (s.emit o).counters = s.counters := rfl
@[simp] theorem emit_modes : (s.emit o).modes = s.modes := rfl
@[simp] theorem emit_attention : (s.emit o).attention = s.attention := rfl
@[simp] theorem emit_memory : (s.emit o).memory = s.memory := rfl
@[simp] theorem emit_work : (s.emit o).work = s.work := rfl
@[simp] theorem emit_pfail : (s.emit o).pfail = s.pfail := rfl
@[simp] theorem emit_port : (s.emit o).port = s.port := rfl
@[simp] theorem emit_freeCount : (s.emit o).freeCount = s.freeCount := rfl
@[simp] theorem emit_pending : (s.emit o).pending = s.pending := rfl
@[simp] theorem emit_outputs : (s.emit o).outputs = o :: s.outputs := rfl
end

/-! ### `clocked` -/

section
variable (s : State) (k : Nat)
@[simp] theorem clocked_position : (s.clocked k).position = s.position := rfl
@[simp] theorem clocked_ring : (s.clocked k).ring = s.ring := rfl
@[simp] theorem clocked_verdict : (s.clocked k).verdict = s.verdict := rfl
@[simp] theorem clocked_register : (s.clocked k).register = s.register := rfl
@[simp] theorem clocked_lanes : (s.clocked k).lanes = s.lanes := rfl
@[simp] theorem clocked_backLandings : (s.clocked k).backLandings = s.backLandings := rfl
@[simp] theorem clocked_shuttle : (s.clocked k).shuttle = s.shuttle := rfl
@[simp] theorem clocked_queue : (s.clocked k).queue = s.queue := rfl
@[simp] theorem clocked_counters : (s.clocked k).counters = s.counters := rfl
@[simp] theorem clocked_modes : (s.clocked k).modes = s.modes := rfl
@[simp] theorem clocked_attention : (s.clocked k).attention = s.attention := rfl
@[simp] theorem clocked_memory : (s.clocked k).memory = s.memory := rfl
@[simp] theorem clocked_work : (s.clocked k).work = s.work := rfl
@[simp] theorem clocked_pfail : (s.clocked k).pfail = s.pfail := rfl
@[simp] theorem clocked_port : (s.clocked k).port = s.port := rfl
@[simp] theorem clocked_freeCount : (s.clocked k).freeCount = s.freeCount := rfl
@[simp] theorem clocked_pending : (s.clocked k).pending = s.pending := rfl
@[simp] theorem clocked_outputs : (s.clocked k).outputs = .sdo (shiftedOut s.port k) :: s.outputs := rfl
end

/-! ### `framed` -/

section
variable (s : State) (len : Nat)
@[simp] theorem framed_position : (s.framed len).position = s.position := rfl
@[simp] theorem framed_ring : (s.framed len).ring = s.ring := rfl
@[simp] theorem framed_verdict : (s.framed len).verdict = s.verdict := rfl
@[simp] theorem framed_register : (s.framed len).register = s.register := rfl
@[simp] theorem framed_lanes : (s.framed len).lanes = s.lanes := rfl
@[simp] theorem framed_backLandings : (s.framed len).backLandings = s.backLandings := rfl
@[simp] theorem framed_shuttle : (s.framed len).shuttle = s.shuttle := rfl
@[simp] theorem framed_queue : (s.framed len).queue = s.queue := rfl
@[simp] theorem framed_counters : (s.framed len).counters = s.counters := rfl
@[simp] theorem framed_modes : (s.framed len).modes = s.modes := rfl
@[simp] theorem framed_attention : (s.framed len).attention = s.attention := rfl
@[simp] theorem framed_memory : (s.framed len).memory = s.memory := rfl
@[simp] theorem framed_work : (s.framed len).work = s.work := rfl
@[simp] theorem framed_pfail : (s.framed len).pfail = s.pfail := rfl
@[simp] theorem framed_port : (s.framed len).port = s.port := rfl
@[simp] theorem framed_freeCount : (s.framed len).freeCount = s.freeCount := rfl
@[simp] theorem framed_pending : (s.framed len).pending = s.pending := rfl
@[simp] theorem framed_outputs : (s.framed len).outputs = .sdo (shiftedOut s.port (len + 4)) :: s.outputs := rfl
end

/-! ### `raise` -/

section
variable (s : State) (a : Attention)
@[simp] theorem raise_position : (s.raise a).position = s.position := rfl
@[simp] theorem raise_ring : (s.raise a).ring = s.ring := rfl
@[simp] theorem raise_verdict : (s.raise a).verdict = s.verdict := rfl
@[simp] theorem raise_register : (s.raise a).register = s.register := rfl
@[simp] theorem raise_lanes : (s.raise a).lanes = s.lanes := rfl
@[simp] theorem raise_backLandings : (s.raise a).backLandings = s.backLandings := rfl
@[simp] theorem raise_shuttle : (s.raise a).shuttle = s.shuttle := rfl
@[simp] theorem raise_queue : (s.raise a).queue = s.queue := rfl
@[simp] theorem raise_counters : (s.raise a).counters = s.counters := rfl
@[simp] theorem raise_modes : (s.raise a).modes = s.modes := rfl
@[simp] theorem raise_memory : (s.raise a).memory = s.memory := rfl
@[simp] theorem raise_work : (s.raise a).work = s.work := rfl
@[simp] theorem raise_pfail : (s.raise a).pfail = s.pfail := rfl
@[simp] theorem raise_port : (s.raise a).port = s.port := rfl
@[simp] theorem raise_outputs : (s.raise a).outputs = s.outputs := rfl
@[simp] theorem raise_freeCount : (s.raise a).freeCount = s.freeCount := rfl
@[simp] theorem raise_pending : (s.raise a).pending = s.pending := rfl
@[simp] theorem raise_attention : (s.raise a).attention = { s.attention with latched := s.attention.latched ||| a.set } := rfl
end

/-! ### `setSettle` -/

section
variable (s : State) (k : Nat)
@[simp] theorem setSettle_position : (s.setSettle k).position = s.position := rfl
@[simp] theorem setSettle_ring : (s.setSettle k).ring = s.ring := rfl
@[simp] theorem setSettle_verdict : (s.setSettle k).verdict = s.verdict := rfl
@[simp] theorem setSettle_lanes : (s.setSettle k).lanes = s.lanes := rfl
@[simp] theorem setSettle_backLandings : (s.setSettle k).backLandings = s.backLandings := rfl
@[simp] theorem setSettle_shuttle : (s.setSettle k).shuttle = s.shuttle := rfl
@[simp] theorem setSettle_queue : (s.setSettle k).queue = s.queue := rfl
@[simp] theorem setSettle_counters : (s.setSettle k).counters = s.counters := rfl
@[simp] theorem setSettle_modes : (s.setSettle k).modes = s.modes := rfl
@[simp] theorem setSettle_attention : (s.setSettle k).attention = s.attention := rfl
@[simp] theorem setSettle_memory : (s.setSettle k).memory = s.memory := rfl
@[simp] theorem setSettle_work : (s.setSettle k).work = s.work := rfl
@[simp] theorem setSettle_pfail : (s.setSettle k).pfail = s.pfail := rfl
@[simp] theorem setSettle_port : (s.setSettle k).port = s.port := rfl
@[simp] theorem setSettle_outputs : (s.setSettle k).outputs = s.outputs := rfl
@[simp] theorem setSettle_freeCount : (s.setSettle k).freeCount = s.freeCount := rfl
@[simp] theorem setSettle_pending : (s.setSettle k).pending = s.pending := rfl
@[simp] theorem setSettle_register : (s.setSettle k).register = { s.register with settle := k } := rfl
end

/-! ### `setPosition` -/

section
variable (s : State) (u : PositionUnit)
@[simp] theorem setPosition_ring : (s.setPosition u).ring = s.ring := rfl
@[simp] theorem setPosition_verdict : (s.setPosition u).verdict = s.verdict := rfl
@[simp] theorem setPosition_register : (s.setPosition u).register = s.register := rfl
@[simp] theorem setPosition_lanes : (s.setPosition u).lanes = s.lanes := rfl
@[simp] theorem setPosition_backLandings : (s.setPosition u).backLandings = s.backLandings := rfl
@[simp] theorem setPosition_shuttle : (s.setPosition u).shuttle = s.shuttle := rfl
@[simp] theorem setPosition_queue : (s.setPosition u).queue = s.queue := rfl
@[simp] theorem setPosition_counters : (s.setPosition u).counters = s.counters := rfl
@[simp] theorem setPosition_modes : (s.setPosition u).modes = s.modes := rfl
@[simp] theorem setPosition_attention : (s.setPosition u).attention = s.attention := rfl
@[simp] theorem setPosition_memory : (s.setPosition u).memory = s.memory := rfl
@[simp] theorem setPosition_work : (s.setPosition u).work = s.work := rfl
@[simp] theorem setPosition_pfail : (s.setPosition u).pfail = s.pfail := rfl
@[simp] theorem setPosition_port : (s.setPosition u).port = s.port := rfl
@[simp] theorem setPosition_outputs : (s.setPosition u).outputs = s.outputs := rfl
@[simp] theorem setPosition_freeCount : (s.setPosition u).freeCount = s.freeCount := rfl
@[simp] theorem setPosition_pending : (s.setPosition u).pending = s.pending := rfl
@[simp] theorem setPosition_position : (s.setPosition u).position = u := rfl
end

/-! ### `setVerdict` -/

section
variable (s : State) (v : VerdictReceiver)
@[simp] theorem setVerdict_position : (s.setVerdict v).position = s.position := rfl
@[simp] theorem setVerdict_ring : (s.setVerdict v).ring = s.ring := rfl
@[simp] theorem setVerdict_register : (s.setVerdict v).register = s.register := rfl
@[simp] theorem setVerdict_lanes : (s.setVerdict v).lanes = s.lanes := rfl
@[simp] theorem setVerdict_backLandings : (s.setVerdict v).backLandings = s.backLandings := rfl
@[simp] theorem setVerdict_shuttle : (s.setVerdict v).shuttle = s.shuttle := rfl
@[simp] theorem setVerdict_queue : (s.setVerdict v).queue = s.queue := rfl
@[simp] theorem setVerdict_counters : (s.setVerdict v).counters = s.counters := rfl
@[simp] theorem setVerdict_modes : (s.setVerdict v).modes = s.modes := rfl
@[simp] theorem setVerdict_attention : (s.setVerdict v).attention = s.attention := rfl
@[simp] theorem setVerdict_memory : (s.setVerdict v).memory = s.memory := rfl
@[simp] theorem setVerdict_work : (s.setVerdict v).work = s.work := rfl
@[simp] theorem setVerdict_pfail : (s.setVerdict v).pfail = s.pfail := rfl
@[simp] theorem setVerdict_port : (s.setVerdict v).port = s.port := rfl
@[simp] theorem setVerdict_outputs : (s.setVerdict v).outputs = s.outputs := rfl
@[simp] theorem setVerdict_freeCount : (s.setVerdict v).freeCount = s.freeCount := rfl
@[simp] theorem setVerdict_pending : (s.setVerdict v).pending = s.pending := rfl
@[simp] theorem setVerdict_verdict : (s.setVerdict v).verdict = v := rfl
end

/-! ### `setShuttle` -/

section
variable (s : State) (st : ShuttleState)
@[simp] theorem setShuttle_position : (s.setShuttle st).position = s.position := rfl
@[simp] theorem setShuttle_ring : (s.setShuttle st).ring = s.ring := rfl
@[simp] theorem setShuttle_verdict : (s.setShuttle st).verdict = s.verdict := rfl
@[simp] theorem setShuttle_register : (s.setShuttle st).register = s.register := rfl
@[simp] theorem setShuttle_lanes : (s.setShuttle st).lanes = s.lanes := rfl
@[simp] theorem setShuttle_backLandings : (s.setShuttle st).backLandings = s.backLandings := rfl
@[simp] theorem setShuttle_queue : (s.setShuttle st).queue = s.queue := rfl
@[simp] theorem setShuttle_counters : (s.setShuttle st).counters = s.counters := rfl
@[simp] theorem setShuttle_modes : (s.setShuttle st).modes = s.modes := rfl
@[simp] theorem setShuttle_attention : (s.setShuttle st).attention = s.attention := rfl
@[simp] theorem setShuttle_memory : (s.setShuttle st).memory = s.memory := rfl
@[simp] theorem setShuttle_work : (s.setShuttle st).work = s.work := rfl
@[simp] theorem setShuttle_pfail : (s.setShuttle st).pfail = s.pfail := rfl
@[simp] theorem setShuttle_port : (s.setShuttle st).port = s.port := rfl
@[simp] theorem setShuttle_outputs : (s.setShuttle st).outputs = s.outputs := rfl
@[simp] theorem setShuttle_freeCount : (s.setShuttle st).freeCount = s.freeCount := rfl
@[simp] theorem setShuttle_pending : (s.setShuttle st).pending = s.pending := rfl
@[simp] theorem setShuttle_shuttle : (s.setShuttle st).shuttle = { s.shuttle with state := st } := rfl
end

/-! ### `setCounter` -/

section
variable (s : State) (c : CounterNo) (k : CounterState)
@[simp] theorem setCounter_position : (s.setCounter c k).position = s.position := rfl
@[simp] theorem setCounter_ring : (s.setCounter c k).ring = s.ring := rfl
@[simp] theorem setCounter_verdict : (s.setCounter c k).verdict = s.verdict := rfl
@[simp] theorem setCounter_register : (s.setCounter c k).register = s.register := rfl
@[simp] theorem setCounter_lanes : (s.setCounter c k).lanes = s.lanes := rfl
@[simp] theorem setCounter_backLandings : (s.setCounter c k).backLandings = s.backLandings := rfl
@[simp] theorem setCounter_shuttle : (s.setCounter c k).shuttle = s.shuttle := rfl
@[simp] theorem setCounter_queue : (s.setCounter c k).queue = s.queue := rfl
@[simp] theorem setCounter_modes : (s.setCounter c k).modes = s.modes := rfl
@[simp] theorem setCounter_attention : (s.setCounter c k).attention = s.attention := rfl
@[simp] theorem setCounter_memory : (s.setCounter c k).memory = s.memory := rfl
@[simp] theorem setCounter_work : (s.setCounter c k).work = s.work := rfl
@[simp] theorem setCounter_pfail : (s.setCounter c k).pfail = s.pfail := rfl
@[simp] theorem setCounter_port : (s.setCounter c k).port = s.port := rfl
@[simp] theorem setCounter_outputs : (s.setCounter c k).outputs = s.outputs := rfl
@[simp] theorem setCounter_freeCount : (s.setCounter c k).freeCount = s.freeCount := rfl
@[simp] theorem setCounter_pending : (s.setCounter c k).pending = s.pending := rfl
@[simp] theorem setCounter_counters : (s.setCounter c k).counters = vset s.counters c k := rfl
end

/-! ### `reloadCredits` -/

section
variable (s : State)
@[simp] theorem reloadCredits_position : (s.reloadCredits).position = s.position := rfl
@[simp] theorem reloadCredits_ring : (s.reloadCredits).ring = s.ring := rfl
@[simp] theorem reloadCredits_verdict : (s.reloadCredits).verdict = s.verdict := rfl
@[simp] theorem reloadCredits_register : (s.reloadCredits).register = s.register := rfl
@[simp] theorem reloadCredits_lanes : (s.reloadCredits).lanes = s.lanes := rfl
@[simp] theorem reloadCredits_backLandings : (s.reloadCredits).backLandings = s.backLandings := rfl
@[simp] theorem reloadCredits_queue : (s.reloadCredits).queue = s.queue := rfl
@[simp] theorem reloadCredits_counters : (s.reloadCredits).counters = s.counters := rfl
@[simp] theorem reloadCredits_modes : (s.reloadCredits).modes = s.modes := rfl
@[simp] theorem reloadCredits_attention : (s.reloadCredits).attention = s.attention := rfl
@[simp] theorem reloadCredits_memory : (s.reloadCredits).memory = s.memory := rfl
@[simp] theorem reloadCredits_work : (s.reloadCredits).work = s.work := rfl
@[simp] theorem reloadCredits_pfail : (s.reloadCredits).pfail = s.pfail := rfl
@[simp] theorem reloadCredits_port : (s.reloadCredits).port = s.port := rfl
@[simp] theorem reloadCredits_outputs : (s.reloadCredits).outputs = s.outputs := rfl
@[simp] theorem reloadCredits_freeCount : (s.reloadCredits).freeCount = s.freeCount := rfl
@[simp] theorem reloadCredits_pending : (s.reloadCredits).pending = s.pending := rfl
end

/-! ### `voidEntry` -/

section
variable (s : State) (n : StackNo)
@[simp] theorem voidEntry_position : (s.voidEntry n).position = s.position := rfl
@[simp] theorem voidEntry_ring : (s.voidEntry n).ring = s.ring := rfl
@[simp] theorem voidEntry_verdict : (s.voidEntry n).verdict = s.verdict := rfl
@[simp] theorem voidEntry_register : (s.voidEntry n).register = s.register := rfl
@[simp] theorem voidEntry_lanes : (s.voidEntry n).lanes = s.lanes := rfl
@[simp] theorem voidEntry_backLandings : (s.voidEntry n).backLandings = s.backLandings := rfl
@[simp] theorem voidEntry_shuttle : (s.voidEntry n).shuttle = s.shuttle := rfl
@[simp] theorem voidEntry_counters : (s.voidEntry n).counters = s.counters := rfl
@[simp] theorem voidEntry_modes : (s.voidEntry n).modes = s.modes := rfl
@[simp] theorem voidEntry_attention : (s.voidEntry n).attention = s.attention := rfl
@[simp] theorem voidEntry_memory : (s.voidEntry n).memory = s.memory := rfl
@[simp] theorem voidEntry_work : (s.voidEntry n).work = s.work := rfl
@[simp] theorem voidEntry_pfail : (s.voidEntry n).pfail = s.pfail := rfl
@[simp] theorem voidEntry_port : (s.voidEntry n).port = s.port := rfl
@[simp] theorem voidEntry_outputs : (s.voidEntry n).outputs = s.outputs := rfl
@[simp] theorem voidEntry_freeCount : (s.voidEntry n).freeCount = s.freeCount := rfl
@[simp] theorem voidEntry_pending : (s.voidEntry n).pending = s.pending := rfl
end

/-! ### `dropHead` -/

section
variable (s : State)
@[simp] theorem dropHead_position : (s.dropHead).position = s.position := rfl
@[simp] theorem dropHead_ring : (s.dropHead).ring = s.ring := rfl
@[simp] theorem dropHead_verdict : (s.dropHead).verdict = s.verdict := rfl
@[simp] theorem dropHead_register : (s.dropHead).register = s.register := rfl
@[simp] theorem dropHead_lanes : (s.dropHead).lanes = s.lanes := rfl
@[simp] theorem dropHead_backLandings : (s.dropHead).backLandings = s.backLandings := rfl
@[simp] theorem dropHead_shuttle : (s.dropHead).shuttle = s.shuttle := rfl
@[simp] theorem dropHead_counters : (s.dropHead).counters = s.counters := rfl
@[simp] theorem dropHead_modes : (s.dropHead).modes = s.modes := rfl
@[simp] theorem dropHead_attention : (s.dropHead).attention = s.attention := rfl
@[simp] theorem dropHead_memory : (s.dropHead).memory = s.memory := rfl
@[simp] theorem dropHead_work : (s.dropHead).work = s.work := rfl
@[simp] theorem dropHead_pfail : (s.dropHead).pfail = s.pfail := rfl
@[simp] theorem dropHead_port : (s.dropHead).port = s.port := rfl
@[simp] theorem dropHead_outputs : (s.dropHead).outputs = s.outputs := rfl
@[simp] theorem dropHead_freeCount : (s.dropHead).freeCount = s.freeCount := rfl
@[simp] theorem dropHead_pending : (s.dropHead).pending = s.pending := rfl
@[simp] theorem dropHead_queue : (s.dropHead).queue = { s.queue with entries := s.queue.entries.tail } := rfl
end

/-! ### `answer` -/

section
variable (s : State) (st : Status) (p : List Byte)
@[simp] theorem answer_position : (s.answer st p).position = s.position := rfl
@[simp] theorem answer_ring : (s.answer st p).ring = s.ring := rfl
@[simp] theorem answer_verdict : (s.answer st p).verdict = s.verdict := rfl
@[simp] theorem answer_register : (s.answer st p).register = s.register := rfl
@[simp] theorem answer_lanes : (s.answer st p).lanes = s.lanes := rfl
@[simp] theorem answer_backLandings : (s.answer st p).backLandings = s.backLandings := rfl
@[simp] theorem answer_shuttle : (s.answer st p).shuttle = s.shuttle := rfl
@[simp] theorem answer_queue : (s.answer st p).queue = s.queue := rfl
@[simp] theorem answer_counters : (s.answer st p).counters = s.counters := rfl
@[simp] theorem answer_modes : (s.answer st p).modes = s.modes := rfl
@[simp] theorem answer_attention : (s.answer st p).attention = s.attention := rfl
@[simp] theorem answer_memory : (s.answer st p).memory = s.memory := rfl
@[simp] theorem answer_work : (s.answer st p).work = s.work := rfl
@[simp] theorem answer_pfail : (s.answer st p).pfail = s.pfail := rfl
@[simp] theorem answer_outputs : (s.answer st p).outputs = s.outputs := rfl
@[simp] theorem answer_freeCount : (s.answer st p).freeCount = s.freeCount := rfl
@[simp] theorem answer_pending : (s.answer st p).pending = s.pending := rfl
@[simp] theorem answer_port : (s.answer st p).port = .ready (responseFrame st p) := rfl
end

/-! ### `startMessage` -/

section
variable (s : State) (m : TrimMessage)
@[simp] theorem startMessage_position : (s.startMessage m).position = s.position := rfl
@[simp] theorem startMessage_ring : (s.startMessage m).ring = s.ring := rfl
@[simp] theorem startMessage_verdict : (s.startMessage m).verdict = s.verdict := rfl
@[simp] theorem startMessage_lanes : (s.startMessage m).lanes = s.lanes := rfl
@[simp] theorem startMessage_backLandings : (s.startMessage m).backLandings = s.backLandings := rfl
@[simp] theorem startMessage_shuttle : (s.startMessage m).shuttle = s.shuttle := rfl
@[simp] theorem startMessage_queue : (s.startMessage m).queue = s.queue := rfl
@[simp] theorem startMessage_counters : (s.startMessage m).counters = s.counters := rfl
@[simp] theorem startMessage_modes : (s.startMessage m).modes = s.modes := rfl
@[simp] theorem startMessage_attention : (s.startMessage m).attention = s.attention := rfl
@[simp] theorem startMessage_memory : (s.startMessage m).memory = s.memory := rfl
@[simp] theorem startMessage_work : (s.startMessage m).work = s.work := rfl
@[simp] theorem startMessage_pfail : (s.startMessage m).pfail = s.pfail := rfl
@[simp] theorem startMessage_port : (s.startMessage m).port = s.port := rfl
@[simp] theorem startMessage_freeCount : (s.startMessage m).freeCount = s.freeCount := rfl
@[simp] theorem startMessage_outputs : (s.startMessage m).outputs = s.outputs := rfl
@[simp] theorem startMessage_pending : (s.startMessage m).pending = s.pending := rfl
@[simp] theorem startMessage_register :
    (s.startMessage m).register = { s.register with sending := some (m, s.work.trimRate) } := rfl
end

/-! ### `putTrim` -/

/-- R71: with no message being sent nothing is put out on TTX. -/
theorem putTrim_idle {s : State} (k : Nat) (h : s.register.sending = none) : s.putTrim k = s := by
  unfold State.putTrim
  rw [h]

/-- R70, R71: the first characters of the message being sent. -/
theorem putTrim_sending {s : State} {m : TrimMessage} {rate : LinkRate} {k : Nat}
    (h : s.register.sending = some (m, rate)) (hk : k ≠ 0) :
    s.putTrim k = { s with outputs := .trim ((trimBytes m).take k) rate :: s.outputs } := by
  unfold State.putTrim
  rw [h]
  exact if_neg hk

/-- Characters put out change nothing else. -/
theorem putTrim_frame (s : State) (k : Nat) : s.putTrim k = { s with outputs := (s.putTrim k).outputs } := by
  unfold State.putTrim
  split
  · rfl
  · split <;> rfl

/-! ### `placeRow` -/

section
variable (s : State) (how : Opening) (m : Pos)
@[simp] theorem placeRow_verdict : (s.placeRow how m).verdict = s.verdict := rfl
@[simp] theorem placeRow_register : (s.placeRow how m).register = s.register := rfl
@[simp] theorem placeRow_lanes : (s.placeRow how m).lanes = s.lanes := rfl
@[simp] theorem placeRow_backLandings : (s.placeRow how m).backLandings = s.backLandings := rfl
@[simp] theorem placeRow_shuttle : (s.placeRow how m).shuttle = s.shuttle := rfl
@[simp] theorem placeRow_queue : (s.placeRow how m).queue = s.queue := rfl
@[simp] theorem placeRow_counters : (s.placeRow how m).counters = s.counters := rfl
@[simp] theorem placeRow_modes : (s.placeRow how m).modes = s.modes := rfl
@[simp] theorem placeRow_attention : (s.placeRow how m).attention = s.attention := rfl
@[simp] theorem placeRow_memory : (s.placeRow how m).memory = s.memory := rfl
@[simp] theorem placeRow_work : (s.placeRow how m).work = s.work := rfl
@[simp] theorem placeRow_pfail : (s.placeRow how m).pfail = s.pfail := rfl
@[simp] theorem placeRow_port : (s.placeRow how m).port = s.port := rfl
@[simp] theorem placeRow_outputs : (s.placeRow how m).outputs = s.outputs := rfl
@[simp] theorem placeRow_freeCount : (s.placeRow how m).freeCount = s.freeCount := rfl
@[simp] theorem placeRow_pending : (s.placeRow how m).pending = s.pending := rfl
end

/-! ### `setOffset` -/

section
variable (s : State) (o : Int)
@[simp] theorem setOffset_position : (s.setOffset o).position = s.position := rfl
@[simp] theorem setOffset_ring : (s.setOffset o).ring = s.ring := rfl
@[simp] theorem setOffset_verdict : (s.setOffset o).verdict = s.verdict := rfl
@[simp] theorem setOffset_register : (s.setOffset o).register = s.register := rfl
@[simp] theorem setOffset_lanes : (s.setOffset o).lanes = s.lanes := rfl
@[simp] theorem setOffset_backLandings : (s.setOffset o).backLandings = s.backLandings := rfl
@[simp] theorem setOffset_shuttle : (s.setOffset o).shuttle = s.shuttle := rfl
@[simp] theorem setOffset_queue : (s.setOffset o).queue = s.queue := rfl
@[simp] theorem setOffset_counters : (s.setOffset o).counters = s.counters := rfl
@[simp] theorem setOffset_modes : (s.setOffset o).modes = s.modes := rfl
@[simp] theorem setOffset_attention : (s.setOffset o).attention = s.attention := rfl
@[simp] theorem setOffset_pfail : (s.setOffset o).pfail = s.pfail := rfl
@[simp] theorem setOffset_port : (s.setOffset o).port = s.port := rfl
@[simp] theorem setOffset_outputs : (s.setOffset o).outputs = s.outputs := rfl
@[simp] theorem setOffset_freeCount : (s.setOffset o).freeCount = s.freeCount := rfl
@[simp] theorem setOffset_pending : (s.setOffset o).pending = s.pending := rfl
end

/-! ### `statusClear` -/

section
variable (s : State) (m : BitVec 16) (q : Bool)
@[simp] theorem statusClear_position : (s.statusClear m q).position = s.position := rfl
@[simp] theorem statusClear_ring : (s.statusClear m q).ring = s.ring := rfl
@[simp] theorem statusClear_verdict : (s.statusClear m q).verdict = s.verdict := rfl
@[simp] theorem statusClear_register : (s.statusClear m q).register = s.register := rfl
@[simp] theorem statusClear_lanes : (s.statusClear m q).lanes = s.lanes := rfl
@[simp] theorem statusClear_backLandings : (s.statusClear m q).backLandings = s.backLandings := rfl
@[simp] theorem statusClear_shuttle : (s.statusClear m q).shuttle = s.shuttle := rfl
@[simp] theorem statusClear_queue : (s.statusClear m q).queue = s.queue := rfl
@[simp] theorem statusClear_counters : (s.statusClear m q).counters = s.counters := rfl
@[simp] theorem statusClear_modes : (s.statusClear m q).modes = s.modes := rfl
@[simp] theorem statusClear_memory : (s.statusClear m q).memory = s.memory := rfl
@[simp] theorem statusClear_work : (s.statusClear m q).work = s.work := rfl
@[simp] theorem statusClear_pfail : (s.statusClear m q).pfail = s.pfail := rfl
@[simp] theorem statusClear_port : (s.statusClear m q).port = s.port := rfl
@[simp] theorem statusClear_outputs : (s.statusClear m q).outputs = s.outputs := rfl
@[simp] theorem statusClear_freeCount : (s.statusClear m q).freeCount = s.freeCount := rfl
@[simp] theorem statusClear_pending : (s.statusClear m q).pending = s.pending := rfl
end

end Sys2Proof.Laws
end

