-- ==== Sys2Proof/Laws/Lookup.lean ====
section
/-! SUPPORT. What a table, the ring and the record image answer after one of their entries is written. -/

namespace Sys2Proof.Laws

open Sys2Proof Sys2Proof.Machine

variable {α : Type} {n : Nat}

/-! ### Tables -/

theorem vset_get (v : Vector α n) (i j : Fin n) (x : α) : (vset v i x)[j] = if i = j then x else v[j] := by
  simp only [vset, Fin.getElem_fin, Vector.getElem_set, Fin.ext_iff]

@[simp] theorem vset_get_same (v : Vector α n) (i : Fin n) (x : α) : (vset v i x)[i] = x := by
  rw [vset_get, if_pos rfl]

theorem vset_get_ne (v : Vector α n) {i j : Fin n} (x : α) (h : i ≠ j) : (vset v i x)[j] = v[j] := by
  rw [vset_get, if_neg h]

@[simp] theorem vtab_get (f : Fin n → α) (i : Fin n) : (vtab f)[i] = f i := by
  simp [vtab, Fin.getElem_fin]

/-- The forms that `simp` gives an index: its number. -/
@[simp] theorem vset_get_val (v : Vector α n) (i : Fin n) (x : α) : (vset v i x)[i.val] = x := vset_get_same v i x

@[simp] theorem vtab_get_val (f : Fin n → α) (i : Fin n) : (vtab f)[i.val] = f i := vtab_get f i

theorem vector_ext {v w : Vector α n} (h : ∀ i : Fin n, v[i] = w[i]) : v = w := by
  apply Vector.ext
  intro k hk
  exact h ⟨k, hk⟩

@[simp] theorem vset_self (v : Vector α n) (i : Fin n) : vset v i v[i] = v := by
  apply vector_ext
  intro j
  rw [vset_get]
  split
  · next h => rw [h]
  · rfl

@[simp] theorem vtab_self (v : Vector α n) : vtab (fun i => v[i]) = v := by
  apply vector_ext
  intro j
  rw [vtab_get]

@[simp] theorem vtab_self_val (v : Vector α n) : vtab (fun i : Fin n => v[i.val]) = v := vtab_self v

@[simp] theorem vset_vset (v : Vector α n) (i : Fin n) (x y : α) : vset (vset v i x) i y = vset v i y := by
  apply vector_ext
  intro j
  simp only [vset_get]
  split <;> rfl

/-! ### The ring -/

theorem rowAt_setRow (s : State) (i j : RingSlot) (r : RowRecord) :
    (s.setRow i r).rowAt j = if i = j then some r else s.rowAt j := by
  simp only [State.rowAt, State.setRow, vset_get]

@[simp] theorem rowAt_setRow_same (s : State) (i : RingSlot) (r : RowRecord) : (s.setRow i r).rowAt i = some r := by
  rw [rowAt_setRow, if_pos rfl]

theorem rowAt_setRow_ne (s : State) {i j : RingSlot} (r : RowRecord) (h : i ≠ j) :
    (s.setRow i r).rowAt j = s.rowAt j := by
  rw [rowAt_setRow, if_neg h]

theorem setRow_rowAt (s : State) (i : RingSlot) (r : RowRecord) (h : s.rowAt i = some r) : s.setRow i r = s := by
  have e : vset s.ring.slots i (some r) = s.ring.slots := by
    rw [← h]
    exact vset_self _ _
  simp only [State.setRow, e]

@[simp] theorem setEntry_get (r : RowRecord) (l l' : Lane) (e : LaneEntry) :
    (r.setEntry l e).lanes[l'] = if l = l' then e else r.lanes[l'] := by
  simp only [RowRecord.setEntry, vset_get]

/-! ### The record image -/

@[simp] theorem inDamagedSet_setStack (s : State) (n : StackNo) (r : StackRecord) (ref : RecordRef) :
    (s.setStack n r).inDamagedSet ref = s.inDamagedSet ref := rfl

@[simp] theorem inDamagedSet_setJob (s : State) (j : JobSlot) (r : JobRecord) (ref : RecordRef) :
    (s.setJob j r).inDamagedSet ref = s.inDamagedSet ref := rfl

/-- A stack record after one was written: the one written, unless the damaged set answers for it. -/
theorem stack_setStack (s : State) (n m : StackNo) (r : StackRecord) :
    (s.setStack n r).stack m =
      if n = m ∧ s.inDamagedSet (.stack n) = false then r else s.stack m := by
  simp only [State.stack, inDamagedSet_setStack, setStack_stackRecs, vset_get]
  by_cases h : n = m
  · subst h
    cases hd : s.inDamagedSet (.stack n) <;> simp
  · simp [h]

theorem stack_setStack_ne (s : State) {n m : StackNo} (r : StackRecord) (h : n ≠ m) :
    (s.setStack n r).stack m = s.stack m := by
  rw [stack_setStack, if_neg]
  exact fun c => h c.1

theorem stack_setStack_same (s : State) (n : StackNo) (r : StackRecord) (h : s.inDamagedSet (.stack n) = false) :
    (s.setStack n r).stack n = r := by
  rw [stack_setStack, if_pos ⟨rfl, h⟩]

theorem job_setJob (s : State) (i j : JobSlot) (r : JobRecord) :
    (s.setJob i r).job j = if i = j ∧ s.inDamagedSet (.job i) = false then r else s.job j := by
  simp only [State.job, inDamagedSet_setJob, setJob_jobRecs, vset_get]
  by_cases h : i = j
  · subst h
    cases hd : s.inDamagedSet (.job i) <;> simp
  · simp [h]

@[simp] theorem job_setStack (s : State) (n : StackNo) (r : StackRecord) (j : JobSlot) :
    (s.setStack n r).job j = s.job j := rfl

@[simp] theorem stack_setJob (s : State) (j : JobSlot) (r : JobRecord) (n : StackNo) :
    (s.setJob j r).stack n = s.stack n := rfl

@[simp] theorem laneRec_setStack (s : State) (n : StackNo) (r : StackRecord) (l : Lane) :
    (s.setStack n r).laneRec l = s.laneRec l := rfl

/-- A record is found at its place when none stands in the damaged set. -/
theorem stack_image (s : State) (n : StackNo) (h : s.memory.damagedSet = []) : s.stack n = s.memory.stackRecs[n] := by
  simp [State.stack, State.inDamagedSet, h]

theorem job_image (s : State) (j : JobSlot) (h : s.memory.damagedSet = []) : s.job j = s.memory.jobRecs[j] := by
  simp [State.job, State.inDamagedSet, h]

/-! ### The bytes on SDO

A transfer's bytes change nothing that another block looks at. -/

@[simp] theorem stack_framed (s : State) (len : Nat) (n : StackNo) : (s.framed len).stack n = s.stack n := rfl
@[simp] theorem job_framed (s : State) (len : Nat) (j : JobSlot) : (s.framed len).job j = s.job j := rfl
@[simp] theorem laneRec_framed (s : State) (len : Nat) (l : Lane) : (s.framed len).laneRec l = s.laneRec l := rfl
@[simp] theorem openOf_framed (s : State) (len : Nat) (l : Lane) : (s.framed len).openOf l = s.openOf l := rfl
@[simp] theorem readyOf_framed (s : State) (len : Nat) (l : Lane) : (s.framed len).readyOf l = s.readyOf l := rfl
@[simp] theorem heldOf_framed (s : State) (len : Nat) (l : Lane) : (s.framed len).heldOf l = s.heldOf l := rfl
@[simp] theorem runningCondition_framed (s : State) (len : Nat) (l : Lane) :
    (s.framed len).runningCondition l = s.runningCondition l := rfl
@[simp] theorem laneNames_framed (s : State) (len : Nat) (l : Lane) (j : JobSlot) :
    (s.framed len).laneNames l j = s.laneNames l j := rfl
@[simp] theorem rowAt_framed (s : State) (len : Nat) (i : RingSlot) : (s.framed len).rowAt i = s.rowAt i := rfl
@[simp] theorem resolveTag_framed (s : State) (len : Nat) (t : Byte) :
    (s.framed len).resolveTag t = s.resolveTag t := rfl
@[simp] theorem slotReferenced_framed (s : State) (len : Nat) (j : JobSlot) :
    (s.framed len).slotReferenced j = s.slotReferenced j := rfl
@[simp] theorem isDamaged_framed (s : State) (len : Nat) (ref : RecordRef) :
    (s.framed len).isDamaged ref = s.isDamaged ref := rfl
@[simp] theorem geometryDamaged_framed (s : State) (len : Nat) :
    (s.framed len).geometryDamaged = s.geometryDamaged := rfl

end Sys2Proof.Laws
end

