-- ==== Sys2Proof/Laws/Reads.lean ====
section
/-! SUPPORT. What a read of a record does: nothing on a clean image, the correction of single-bit errors, or the damage
mark with its effects (R179, R181). -/

namespace Sys2Proof.Laws

open Sys2Proof Sys2Proof.Machine

/-! ### On a clean image -/

theorem satAdd_zero (c : Count) : satAdd c 0 = c := by
  unfold satAdd
  have := c.isLt
  split
  · next h =>
    apply BitVec.eq_of_toNat_eq
    simp only [BitVec.toNat_allOnes]
    omega
  · apply BitVec.eq_of_toNat_eq
    simp

theorem wordFlips_clean (s : State) (h : s.memory.flips = []) (ref : RecordRef) (w : Nat) : s.wordFlips ref w = [] := by
  simp [State.wordFlips, h]

theorem reports_clean (s : State) (h : s.memory.flips = []) (ref : RecordRef) :
    s.reports ref = (List.range ref.words).map (fun w => (w, WordReport.clean)) := by
  simp only [State.reports, wordFlips_clean s h, wordReport]

theorem uncorrectable_clean (s : State) (h : s.memory.flips = []) (ref : RecordRef) : s.uncorrectable ref = false := by
  rw [State.uncorrectable, reports_clean s h]
  simp [List.any_eq_false]

theorem singleErrors_clean (s : State) (h : s.memory.flips = []) (ref : RecordRef) : s.singleErrors ref = [] := by
  rw [State.singleErrors, reports_clean s h]
  simp

theorem beyondCode_clean (s : State) (h : s.memory.flips = []) (ref : RecordRef) : s.beyondCode ref = [] := by
  simp [State.beyondCode, h]

theorem correct_clean (s : State) (h : s.memory.flips = []) (ref : RecordRef) : s.correct ref = s := by
  have h1 : s.misread ref = s := by
    unfold State.misread
    rw [beyondCode_clean s h]
    rfl
  have h2 : s.flipsAfterRead ref = s.memory.flips := by
    unfold State.flipsAfterRead
    rw [singleErrors_clean s h, h]
    simp
  unfold State.correct
  simp only [singleErrors_clean s h, List.length_nil, h1, h2, satAdd_zero, if_true]

/-- R179, first row: on a clean image a read hands the record on and changes nothing. -/
theorem readFuel_clean (k : Nat) (ref : RecordRef) (s : State) (h : s.memory.flips = []) : readFuel k ref s = s := by
  cases k with
  | zero => rfl
  | succ k =>
    unfold readFuel
    rw [uncorrectable_clean s h, correct_clean s h]
    simp

theorem readRecord_clean (ref : RecordRef) (s : State) (h : s.memory.flips = []) : readRecord ref s = s :=
  readFuel_clean 98 ref s h

theorem readAll_clean (refs : List RecordRef) (s : State) (h : s.memory.flips = []) :
    readAll readRecord refs s = s := by
  unfold readAll
  induction refs generalizing s with
  | nil => rfl
  | cons r rs ih => simp only [List.foldl_cons, readRecord_clean r s h, ih s h]

theorem scanRecord_clean (ref : RecordRef) (s : State) (h : s.memory.flips = []) : scanRecord ref s = s := by
  unfold scanRecord
  rw [uncorrectable_clean s h, correct_clean s h]
  simp

/-! ### On a record with flipped bits -/

/-- R181: a record that carries its mark, or stands in the damaged set, reads clean and is not marked again. -/
theorem readRecord_damaged (ref : RecordRef) (s : State) (h : s.isDamaged ref = true) : readRecord ref s = s := by
  unfold readRecord readFuel
  rw [if_pos h]

/-- R181: a word that cannot be corrected marks the record damaged and applies the owner's effects. -/
theorem readRecord_uncorrectable (ref : RecordRef) (s : State) (h : s.isDamaged ref = false)
    (hu : s.uncorrectable ref = true) :
    readRecord ref s = State.ownerEffectsWith (readFuel 97) s ref (s.markDamaged ref) := by
  unfold readRecord readFuel
  simp [h, hu]

/-- R179: a record with no uncorrectable word is handed on corrected. -/
theorem readRecord_correctable (ref : RecordRef) (s : State) (h : s.isDamaged ref = false)
    (hu : s.uncorrectable ref = false) : readRecord ref s = s.correct ref := by
  unfold readRecord readFuel
  simp [h, hu]

end Sys2Proof.Laws
end

