-- ==== Sys2Proof/Laws/Opening.lean ====
section
/-! SUPPORT. The oldest open row that meets a test, and what opening a row leaves of a state with a clean image. -/

namespace Sys2Proof.Laws

open Sys2Proof Sys2Proof.Machine

/-! ### Finding an open row -/

/-- The search of the ring answers the oldest open row that meets the test. -/
theorem findOpen_first {s : State} {p : RowRecord → Prop} {q : RowRecord → Bool} (hq : ∀ r, q r = true ↔ p r)
    {i : RingSlot} {r : RowRecord} (h : s.firstOpen p i r) : s.findOpen q = some i := by
  obtain ⟨older, newer, hl, hr, hp, ho⟩ := h
  unfold State.findOpen
  rw [hl, List.find?_append]
  have hn : older.find? (fun j => (s.rowAt j).any q) = none := by
    rw [List.find?_eq_none]
    intro j hj hc
    cases hj' : s.rowAt j with
    | none => simp [hj'] at hc
    | some r' =>
      rw [hj'] at hc
      exact ho j hj r' hj' ((hq r').mp (by simpa using hc))
  rw [hn]
  simp [hr, (hq r).mpr hp]

/-- The search of the ring answers nothing when no open row meets the test. -/
theorem findOpen_none {s : State} {p : RowRecord → Prop} {q : RowRecord → Bool} (hq : ∀ r, q r = true ↔ p r)
    (h : s.noOpen p) : s.findOpen q = none := by
  unfold State.findOpen
  rw [List.find?_eq_none]
  intro j hj hc
  cases hj' : s.rowAt j with
  | none => simp [hj'] at hc
  | some r' =>
    rw [hj'] at hc
    exact h j hj r' hj' ((hq r').mp (by simpa using hc))

/-! ### Opening a row on a clean image -/

theorem readForOpening_clean (s : State) (l : Lane) (h : s.memory.flips = []) : s.readForOpening l = s := by
  unfold State.readForOpening
  simp only [readRecord_clean _ s h]
  split
  · rfl
  · split <;> rfl

/-- What the lanes of a list leave of a state when their entries are written into the row in slot `i`. -/
def lanesOpened (i : RingSlot) (number : RowNo) (r : RowRecord) (ls : List Lane) (t : State) : State :=
  { t with
      lanes := vtab (fun l => if l ∈ ls then { t.lanes[l] with rowOrigin := (laneOpening t number l).2 } else t.lanes[l])
      ring := { t.ring with
        slots := vset t.ring.slots i
          (some { r with lanes := vtab (fun l => if l ∈ ls then (laneOpening t number l).1 else r.lanes[l]) }) } }

theorem openLane_clean (i : RingSlot) (number : RowNo) (r : RowRecord) (t : State) (l : Lane) (h : t.memory.flips = [])
    (hr : t.rowAt i = some r) : State.openLane i number t l = lanesOpened i number r [l] t := by
  unfold State.openLane
  simp only [readForOpening_clean t l h]
  have hu : (t.setLane l { t.lanes[l] with rowOrigin := (laneOpening t number l).2 }).rowAt i = some r := hr
  rw [hu]
  simp only [State.setLane, State.setRow, lanesOpened, List.mem_singleton]
  congr 1
  · congr 1
    congr 1
    congr 1
    simp only [RowRecord.setEntry]
    congr 1
    apply vector_ext
    intro k
    rw [vset_get, vtab_get]
    by_cases hk : l = k
    · subst hk; simp
    · rw [if_neg hk, if_neg (fun c => hk c.symm)]
  · apply vector_ext
    intro k
    rw [vset_get, vtab_get]
    by_cases hk : l = k
    · subst hk; simp
    · rw [if_neg hk, if_neg (fun c => hk c.symm)]

theorem lanesOpened_row (i : RingSlot) (number : RowNo) (r : RowRecord) (ls : List Lane) (t : State) :
    (lanesOpened i number r ls t).rowAt i =
      some { r with lanes := vtab (fun l => if l ∈ ls then (laneOpening t number l).1 else r.lanes[l]) } := by
  simp only [State.rowAt, lanesOpened, vset_get_same]

theorem lanesOpened_lane (i : RingSlot) (number : RowNo) (r : RowRecord) (l k : Lane) (t : State) (hk : k ≠ l) :
    (lanesOpened i number r [l] t).lanes[k] = t.lanes[k] := by
  simp only [lanesOpened, vtab_get, List.mem_singleton, if_neg hk]

theorem laneOpening_lanesOpened (i : RingSlot) (number : RowNo) (r : RowRecord) (l k : Lane) (t : State) (hk : k ≠ l) :
    laneOpening (lanesOpened i number r [l] t) number k = laneOpening t number k := by
  simp only [laneOpening, lanesOpened_lane i number r l k t hk]
  rfl

theorem lanesOpened_cons (i : RingSlot) (number : RowNo) (r : RowRecord) (l : Lane) (ls : List Lane) (hl : l ∉ ls)
    (t : State) :
    lanesOpened i number
        { r with lanes := vtab (fun k => if k ∈ [l] then (laneOpening t number k).1 else r.lanes[k]) } ls
        (lanesOpened i number r [l] t) = lanesOpened i number r (l :: ls) t := by
  have e1 : ∀ k, (if k ∈ ls then
        ({ (lanesOpened i number r [l] t).lanes[k] with
            rowOrigin := (laneOpening (lanesOpened i number r [l] t) number k).2 } : LaneUnit)
      else (lanesOpened i number r [l] t).lanes[k]) =
      if k ∈ l :: ls then { t.lanes[k] with rowOrigin := (laneOpening t number k).2 } else t.lanes[k] := by
    intro k
    by_cases hk : k = l
    · subst hk
      rw [if_neg hl, if_pos (List.mem_cons_self ..)]
      simp only [lanesOpened, vtab_get, List.mem_singleton, if_true]
    · rw [lanesOpened_lane i number r l k t hk, laneOpening_lanesOpened i number r l k t hk]
      simp only [List.mem_cons, hk, false_or]
  have e2 : ∀ k, (if k ∈ ls then (laneOpening (lanesOpened i number r [l] t) number k).1
      else (vtab (fun k => if k ∈ [l] then (laneOpening t number k).1 else r.lanes[k]) : Vector LaneEntry 12)[k]) =
      if k ∈ l :: ls then (laneOpening t number k).1 else r.lanes[k] := by
    intro k
    by_cases hk : k = l
    · subst hk
      rw [if_neg hl, if_pos (List.mem_cons_self ..)]
      simp only [vtab_get, List.mem_singleton, if_true]
    · rw [laneOpening_lanesOpened i number r l k t hk]
      simp only [vtab_get, List.mem_cons, List.not_mem_nil, hk, false_or, if_false]
  unfold lanesOpened at e1 e2 ⊢
  simp only [e1, e2, vset_vset]

theorem foldl_openLane_clean (i : RingSlot) (number : RowNo) (ls : List Lane) (hn : ls.Nodup) (r : RowRecord) (t : State)
    (h : t.memory.flips = []) (hr : t.rowAt i = some r) :
    ls.foldl (State.openLane i number) t = lanesOpened i number r ls t := by
  induction ls generalizing r t with
  | nil =>
    rw [State.rowAt] at hr
    have e : vset t.ring.slots i (some r) = t.ring.slots := by rw [← hr]; exact vset_self _ _
    simp only [List.foldl_nil, lanesOpened, List.not_mem_nil, if_false, vtab_self, e]
  | cons l ls ih =>
    obtain ⟨hl, hn⟩ := List.nodup_cons.mp hn
    rw [List.foldl_cons, openLane_clean i number r t l h hr,
      ih hn _ (lanesOpened i number r [l] t) h (lanesOpened_row i number r [l] t), lanesOpened_cons i number r l ls hl t]

/-- R18, R72, R73: what the register unit and the mode controller do at an opening. -/
theorem settleAtOpening_eq (t : State) (how : Opening) :
    t.settleAtOpening how =
      { t with
          register := { t.register with settle := settleAfterOpening t.modes.mode how t.register.settle }
          modes := if riseAtOpening t how then { t.modes with mode := .tracking } else t.modes
          attention :=
            if riseAtOpening t how then
              { t.attention with latched := t.attention.latched ||| Attention.modeReached.set }
            else t.attention } := by
  unfold State.settleAtOpening settleAfterOpening riseAtOpening
  by_cases hm : t.modes.mode = .seek
  · rw [if_pos hm, if_pos hm]
    cases how
    · unfold State.riseTest
      by_cases hn : t.work.nSettle ≤ min (t.register.settle + 1) 32
      · simp [hm, hn, State.setSettle, State.raise]
      · simp [hn, State.setSettle]
    · simp
    · simp [State.setSettle]
  · rw [if_neg hm, if_neg hm]
    simp [hm]

/-- R8: the drop test of the splice zone at an opening. -/
theorem dropZone_eq (t : State) (m : Pos) :
    t.dropZone m = { t with position := { t.position with zone := zoneAfterOpening t.position.zone m } } := by
  unfold State.dropZone zoneAfterOpening
  cases hz : t.position.zone with
  | none =>
    dsimp only
    rw [← hz]
  | some z =>
    dsimp only
    split
    · rfl
    · rw [← hz]

/-- R184: the scrubber's part of an opening, on a clean image. -/
theorem scrub_clean (t : State) (h : t.memory.flips = []) :
    t.scrub = { t with memory := { t.memory with scrub := (t.memory.scrub + 1) % 97 } } := by
  unfold State.scrub
  rw [readRecord_clean _ t h]

/-- What opening a row leaves of a state with a clean image. -/
theorem openRow_clean (s : State) (how : Opening) (m : Pos) (h : s.memory.flips = []) :
    s.openRow how m = s.withRowOpened how m := by
  have hr : (s.placeRow how m).rowAt (ringSlot s.ring.next) = some (newRow s how m) := by
    simp only [State.rowAt, State.placeRow, vset_get_same]
  have hf := foldl_openLane_clean _ s.ring.next (List.finRange 12) (List.nodup_finRange 12) _ (s.placeRow how m) h hr
  unfold State.openRow
  dsimp only
  rw [hf, settleAtOpening_eq, scrub_clean _ (by exact h), dropZone_eq]
  unfold State.withRowOpened
  simp only [lanesOpened, List.mem_finRange, if_true, State.placeRow, vset_vset]
  rfl

end Sys2Proof.Laws
end

