-- ==== Sys2Proof/Laws/Clean.lean ====
section
/-! SUPPORT. What the shared operations do on a clean image: the oldest row's entry, the seal, the completion test, the grant,
the requests. Each lemma says once what its operation answers, so that a proof cites it instead of unfolding the operation. -/

namespace Sys2Proof.Laws

open Sys2Proof Sys2Proof.Machine

/-! ### Entries of rows and lanes -/

/-- The entry of a lane written into a row that stands in its slot. -/
theorem setEntry_row {s : State} {i : RingSlot} {r : RowRecord} (h : s.rowAt i = some r) (l : Lane) (e : LaneEntry) :
    s.setEntry i l e = s.setRow i (r.setEntry l e) := by
  unfold State.setEntry
  rw [h]

/-- R87: the skip cause after a failure of a row. -/
theorem skip_eq (u : LaneUnit) (c : Cause) (row : RowNo) : u.skip c row = skipAfter u c row := by
  unfold LaneUnit.skip skipAfter
  cases h : u.skipCause <;> simp

@[simp] theorem skipAfter_run (u : LaneUnit) (c : Cause) (row : RowNo) : (skipAfter u c row).run = u.run := by
  unfold skipAfter
  cases u.skipCause <;> rfl

/-- The lane that a lane number names. -/
@[simp] theorem laneOfNumber_succ (l : Lane) : laneOfNumber (l.val + 1) = l := by
  unfold laneOfNumber
  apply Fin.ext
  have := l.isLt
  simp [Fin.ofNat]

/-! ### Stack records -/

/-- R117: the record a lane is found to hold in a state is in that state and stands in that lane. -/
theorem laneStack_some {s : State} {l : Lane} {st : StackState} {n : StackNo} (h : s.laneStack l st = some n) :
    (s.stack n).state = st ∧ (s.stack n).lane = laneNumber l := by
  have := List.find?_some h
  simpa using this

/-- A lane holds no record in a state when none of the 64 is in it there. -/
theorem laneStack_none {s : State} {l : Lane} {st : StackState} :
    s.laneStack l st = none ↔ ∀ n, ¬((s.stack n).state = st ∧ (s.stack n).lane = laneNumber l) := by
  unfold State.laneStack State.findStack
  rw [List.find?_eq_none]
  simp

/-- A record in a live state is not answered for by the damaged set. -/
theorem live_not_inDamagedSet {s : State} {n : StackNo} (h : (s.stack n).state ≠ .quarantined .damaged) :
    s.inDamagedSet (.stack n) = false := by
  rw [Bool.eq_false_iff]
  intro hd
  apply h
  unfold State.stack
  rw [if_pos hd]
  rfl

/-- R121: the lowest-numbered FREE record. -/
theorem lowestFree_some {s : State} {n : StackNo} (h : (s.stack n).state = .free)
    (hm : ∀ m, m < n → (s.stack m).state ≠ .free) : s.lowestFree = some n := by
  unfold State.lowestFree State.findStack
  rw [List.find?_eq_some_iff_append]
  refine ⟨by simp [h], (List.finRange 64).take n.val, (List.finRange 64).drop (n.val + 1), ?_, ?_⟩
  · have hn : n.val < (List.finRange 64).length := by simp
    have e := List.take_append_drop n.val (List.finRange 64)
    rw [List.drop_eq_getElem_cons hn] at e
    simpa using e.symm
  · intro a ha
    rw [List.mem_take_iff_getElem] at ha
    obtain ⟨k, hk, rfl⟩ := ha
    have : ((List.finRange 64)[k]'(by simp at hk ⊢; omega)) < n := by
      simp only [List.getElem_finRange, Fin.lt_def, Fin.val_cast]
      omega
    simpa using hm _ this

/-- R79: the reads of a decision change nothing on a clean image. -/
theorem readFree_clean (k : Nat) {s : State} (h : s.memory.flips = []) : State.readFree k s = s := by
  induction k with
  | zero => rfl
  | succ k ih =>
    unfold State.readFree
    simp only [readRecord_clean _ s h, ih]
    split
    · rfl
    · split <;> rfl

theorem readForDecision_clean (l : Lane) {s : State} (h : s.memory.flips = []) : s.readForDecision l = s := by
  unfold State.readForDecision State.readLaneStacks
  rw [readAll_clean _ s h, readFree_clean 64 h]

/-- R121: no FREE record. -/
theorem lowestFree_none {s : State} : s.lowestFree = none ↔ ∀ n, (s.stack n).state ≠ .free := by
  unfold State.lowestFree State.findStack
  rw [List.find?_eq_none]
  simp

/-- R180: on a clean image fresh check bits change nothing. -/
theorem clearWords_clean {s : State} (ref : RecordRef) (stored : Nat → Bool) (hc : s.memory.flips = []) :
    s.clearWords ref stored = s := by
  have e : s.memory.flips.filter (fun f => !(f.ref == ref && stored f.word)) = s.memory.flips := by
    rw [hc]
    rfl
  unfold State.clearWords
  rw [e]

/-- R121: on a clean image a record made FREE. -/
theorem freeStack_clean {s : State} (n : StackNo) (hc : s.memory.flips = []) :
    s.freeStack n = (s.setStack n (s.stack n).freed).unblockLanes := by
  unfold State.freeStack
  rw [clearWords_clean _ _ (by exact hc)]

/-! ### The completion test, the seal and the grant -/

/-- R97, R126: a record that is not complete, and any record while PFAIL is asserted, stays as it is. -/
theorem completeTest_stays {s : State} {n : StackNo} (h : s.pfail = true ∨ (s.stack n).complete = false) :
    s.completeTest n = s := by
  unfold State.completeTest State.completeWith
  rw [if_neg]
  rintro ⟨h1, h2⟩
  rcases h with h | h
  · rw [h] at h1; exact absurd h1 (by simp)
  · rw [h] at h2; exact absurd h2 (by simp)

/-- R126, R127, R141: a complete record moves on, and a move to READY is offered to the arbiter. -/
theorem completeTest_moves {s : State} {n : StackNo} (hp : s.pfail = false) (h : (s.stack n).complete = true) :
    s.completeTest n =
      if ((s.moveComplete n).stack n).state = .ready then State.grant (s.moveComplete n) else s.moveComplete n := by
  unfold State.completeTest State.completeWith
  rw [if_pos ⟨hp, h⟩]

/-- R125: a seal, with the completion test after it. -/
theorem seal_eq (s : State) (n : StackNo) (reason : SealReason) :
    s.seal n reason =
      State.completeTest (s.setStack n { s.stack n with state := .sealed, sealReason := some reason }) n := rfl

/-- R125: on a clean image a lane's OPEN record is sealed. -/
theorem sealLane_open {s : State} {l : Lane} {n : StackNo} (hc : s.memory.flips = []) (hp : s.pfail = false)
    (h : s.openOf l = some n) (reason : SealReason) : s.sealLane l reason = (s.seal n reason, some n) := by
  have hs := laneStack_some h
  unfold State.sealLane State.sealLaneWith
  rw [if_neg (by simp [hp]), h]
  simp only [readRecord_clean _ _ hc]
  rw [if_pos hs]

/-- R125: a lane with no OPEN record seals nothing. -/
theorem sealLane_none {s : State} {l : Lane} (h : s.openOf l = none) (reason : SealReason) :
    s.sealLane l reason = (s, none) := by
  unfold State.sealLane State.sealLaneWith
  split
  · rfl
  · rw [h]

/-- R141: while a condition of a grant fails none is made. -/
theorem grant_stays {s : State} (h : s.canGrant = false) : s.grant = s := by
  unfold State.grant State.grantWith
  rw [if_neg (by simp [h])]

theorem canGrant_iff (s : State) :
    s.canGrant = true ↔
      s.pfail = false ∧ s.shuttle.state = .idle ∧ (∃ l : Lane, s.readyOf l ≠ none) ∧
        s.queue.entries.length < s.work.capacity := by
  unfold State.canGrant
  simp only [Bool.and_eq_true, Bool.not_eq_true', beq_iff_eq, decide_eq_true_eq, and_assoc]
  have : s.readyLanes.isEmpty = false ↔ ∃ l : Lane, s.readyOf l ≠ none := by
    unfold State.readyLanes
    rw [List.isEmpty_eq_false_iff_exists_mem]
    simp [Option.isSome_iff_ne_none]
  rw [this]

/-- R142, R143: the choice of the lane on a clean image. -/
theorem chooseLane_clean {s : State} (hc : s.memory.flips = []) (hg : s.canGrant = true) :
    State.chooseLane readRecord s =
      match s.work.arbiter with
      | .strict => (s, s.strictWinner)
      | .weighted =>
        match s.weightedWinner with
        | some l => (s, some l)
        | none => (s.reloadCredits, s.reloadCredits.weightedWinner) := by
  unfold State.chooseLane
  cases s.work.arbiter with
  | strict => simp only [readAll_clean _ s hc, hg, if_true]
  | weighted =>
    cases s.weightedWinner with
    | some l => rfl
    | none => simp only [readAll_clean _ s hc, hg, if_true]

/-- R144: on a clean image the lane chosen is granted its READY record. -/
theorem grant_clean {s t : State} {l : Lane} {n : StackNo} (hg : s.canGrant = true)
    (hl : State.chooseLane readRecord s = (t, some l)) (ht : t.memory.flips = []) (hgt : t.canGrant = true)
    (hn : t.readyOf l = some n) : s.grant = State.startTransfer readRecord l n t := by
  have hs := laneStack_some hn
  unfold State.grant State.grantWith
  rw [if_pos hg]
  simp only [hl, hn, readRecord_clean _ t ht]
  rw [if_pos ⟨hgt, hs⟩]

/-! ### What the requests and the events read first -/

/-- R88: on a clean image the running condition is tested as it stands. -/
theorem readAndRetest_clean (l : Lane) {s : State} (hc : s.memory.flips = []) : s.readAndRetest l = s.retestLane l := by
  unfold State.readAndRetest
  rw [readForOpening_clean s l hc]

/-- R101, R107: on a clean image the read of the OPEN records changes nothing. -/
theorem readOpenStacks_clean {s : State} (hc : s.memory.flips = []) : s.readOpenStacks = s := readAll_clean _ s hc

/-- R102: on a clean image the lanes that name a slot are tested as they stand. -/
theorem retestNaming_clean (j : JobSlot) {s : State} (hc : s.memory.flips = []) :
    s.retestNaming j = (List.finRange 12).foldl (fun t l => if t.laneNames l j then t.retestLane l else t) s := by
  unfold State.retestNaming
  induction List.finRange 12 generalizing s with
  | nil => rfl
  | cons l ls ih =>
    simp only [List.foldl_cons]
    split
    · rw [readAndRetest_clean l hc]
      exact ih hc
    · exact ih hc

/-- R126: on a clean image STACK_COMPLETE is the completion test. -/
theorem takeComplete_clean (n : StackNo) {s : State} (hc : s.memory.flips = []) : s.takeComplete n = s.completeTest n := by
  unfold State.takeComplete
  split
  · rw [readRecord_clean _ _ hc]
  · next h =>
    rw [completeTest_stays]
    by_cases hp : s.pfail = true
    · exact Or.inl hp
    · refine Or.inr ?_
      unfold StackRecord.complete
      have : (s.stack n).state ≠ .sealed := fun hs => h ⟨by simpa using hp, hs⟩
      simp [this]

/-- R117, R121: a record that is not QUARANTINED holds no cause to keep when it becomes FREE. -/
theorem freed_eq {r : StackRecord} (h : ∀ c, r.state ≠ .quarantined c) : r.freed = { r with state := .free } := by
  unfold StackRecord.freed
  split
  · next c hc => exact absurd hc (h c)
  · rfl

/-- R117, R121: a QUARANTINED record keeps its cause when it becomes FREE. -/
theorem freed_quarantined {r : StackRecord} {c : QuarantineCause} (h : r.state = .quarantined c) :
    r.freed = { r with state := .free, heldCause := some c } := by
  unfold StackRecord.freed
  rw [h]

/-! ### Requests -/

/-- R190: a request under PFAIL. -/
theorem request_power {s : State} (h : s.pfail = true) (form : Bool) (act : State → State × Status × List Byte) :
    s.request form act = { s with port := .ready (responseFrame .errPower []) } := by
  unfold State.request
  rw [if_pos h]
  rfl

/-- R190, R192: a request with a field that breaks its form. -/
theorem request_form {s : State} (h : s.pfail = false) (act : State → State × Status × List Byte) :
    s.request false act = { s with port := .ready (responseFrame .errArg []) } := by
  unfold State.request
  rw [if_neg (by simp [h])]
  rfl

/-- R190, R191: a request acts by its own rule with the response slot building, and its answer becomes the response. -/
theorem request_acts {s t : State} {st : Status} {payload : List Byte} (h : s.pfail = false)
    {act : State → State × Status × List Byte} (ha : act { s with port := .building } = (t, st, payload)) :
    s.request true act = { t with port := .ready (responseFrame st payload) } := by
  unfold State.request
  rw [if_neg (by simp [h]), if_pos rfl, ha]
  rfl

/-- R190: a request refused by its own rule before any read changes nothing but the response. -/
theorem request_refuses {s : State} {st : Status} (h : s.pfail = false) {act : State → State × Status × List Byte}
    (ha : act { s with port := .building } = refuse { s with port := .building } st) :
    s.request true act = { s with port := .ready (responseFrame st []) } :=
  request_acts (t := { s with port := .building }) h ha

/-- R190, R191: a request taken, with the state and the payload its rule gives. -/
theorem request_replies {s t : State} {payload : List Byte} (h : s.pfail = false)
    {act : State → State × Status × List Byte} (ha : act { s with port := .building } = reply t payload) :
    s.request true act = { t with port := .ready (responseFrame .ok payload) } :=
  request_acts h ha

theorem laneArg_of {b : Byte} {l : Lane} (h : b.toNat = l.val + 1) : laneArg b = some l := by
  have := l.isLt
  unfold laneArg
  rw [dif_pos (by omega)]
  congr 1
  apply Fin.ext
  simp [h]

theorem laneArg_none {b : Byte} (h : b.toNat = 0 ∨ 12 < b.toNat) : laneArg b = none := by
  unfold laneArg
  rw [dif_neg (by omega)]

theorem indexArg_of {n : Nat} {b : Byte} {i : Fin n} (h : b.toNat = i.val) : indexArg n b = some i := by
  have := i.isLt
  unfold indexArg
  rw [dif_pos (by omega)]
  congr 1
  apply Fin.ext
  exact h

theorem indexArg_none {n : Nat} {b : Byte} (h : n ≤ b.toNat) : indexArg n b = none := by
  unfold indexArg
  rw [dif_neg (by omega)]

end Sys2Proof.Laws
end

