-- ==== Sys2Proof/Laws/Frame.lean ====
section
/-! SUPPORT. The frame of the stack table and the arbiter: what pushing, completing, sealing and granting leave of a state
with a clean image, and what the emptying of a slot leaves. -/

namespace Sys2Proof.Laws

open Sys2Proof Sys2Proof.Machine

/-- From `a` to `b` only stack records, the run states of lanes, the shuttle and the outputs changed. -/
structure StacksMoved (a b : State) : Prop where
  rest :
    b =
      { a with
          memory := { a.memory with stackRecs := b.memory.stackRecs }
          lanes := b.lanes
          shuttle := b.shuttle
          outputs := b.outputs }
  runs : ∀ l : Lane, b.lanes[l] = { a.lanes[l] with run := b.lanes[l].run }

namespace StacksMoved

variable {a b c : State}

theorem refl (a : State) : StacksMoved a a := ⟨rfl, fun _ => rfl⟩

theorem trans (h : StacksMoved a b) (k : StacksMoved b c) : StacksMoved a c := by
  refine ⟨?_, ?_⟩
  · rw [k.rest, h.rest]
  · intro l
    rw [k.runs l, h.runs l]

theorem ring (h : StacksMoved a b) : b.ring = a.ring := by rw [h.rest]
theorem position (h : StacksMoved a b) : b.position = a.position := by rw [h.rest]
theorem modes (h : StacksMoved a b) : b.modes = a.modes := by rw [h.rest]
theorem queue (h : StacksMoved a b) : b.queue = a.queue := by rw [h.rest]
theorem pfail (h : StacksMoved a b) : b.pfail = a.pfail := by rw [h.rest]
theorem work (h : StacksMoved a b) : b.work = a.work := by rw [h.rest]
theorem port (h : StacksMoved a b) : b.port = a.port := by rw [h.rest]
theorem flips (h : StacksMoved a b) : b.memory.flips = a.memory.flips := by rw [h.rest]
theorem damagedSet (h : StacksMoved a b) : b.memory.damagedSet = a.memory.damagedSet := by rw [h.rest]
theorem jobRecs (h : StacksMoved a b) : b.memory.jobRecs = a.memory.jobRecs := by rw [h.rest]
theorem laneRecs (h : StacksMoved a b) : b.memory.laneRecs = a.memory.laneRecs := by rw [h.rest]

end StacksMoved

theorem unblockLanes_moved (s : State) : StacksMoved s s.unblockLanes := by
  refine ⟨rfl, ?_⟩
  intro l
  simp only [State.unblockLanes, vtab_get]

theorem setStack_moved (s : State) (n : StackNo) (r : StackRecord) : StacksMoved s (s.setStack n r) := ⟨rfl, fun _ => rfl⟩

theorem emit_moved (s : State) (o : Output) : StacksMoved s (s.emit o) := ⟨rfl, fun _ => rfl⟩

theorem moveComplete_moved (s : State) (n : StackNo) : StacksMoved s (s.moveComplete n) := by
  unfold State.moveComplete
  dsimp only
  split
  · exact (setStack_moved _ _ _).trans (unblockLanes_moved _)
  · split
    · exact setStack_moved _ _ _
    · exact (setStack_moved _ _ _).trans (emit_moved _ _)

theorem pushHeld_moved (l : Lane) {s : State} (hc : s.memory.flips = []) :
    StacksMoved s (State.pushHeldWith readRecord l s) := by
  unfold State.pushHeldWith
  split
  · exact StacksMoved.refl s
  · split
    · exact StacksMoved.refl s
    · rw [readRecord_clean _ _ hc]
      dsimp only
      split
      · exact (setStack_moved _ _ _).trans (emit_moved _ _)
      · exact StacksMoved.refl s

theorem startTransfer_moved (l : Lane) (n : StackNo) {s : State} (hc : s.memory.flips = []) :
    StacksMoved s (State.startTransfer readRecord l n s) := by
  unfold State.startTransfer
  dsimp only
  have h : ∀ x, StacksMoved s x → StacksMoved s (State.pushHeldWith readRecord l x).unblockLanes := fun x hx =>
    (hx.trans (pushHeld_moved l (by rw [hx.flips]; exact hc))).trans (unblockLanes_moved _)
  apply h
  split <;> exact ⟨rfl, fun _ => rfl⟩

/-- R141 to R144: what a test for a grant can change. -/
theorem grant_moved {s : State} (hc : s.memory.flips = []) : StacksMoved s s.grant := by
  by_cases hg : s.canGrant = true
  · unfold State.grant State.grantWith
    rw [if_pos hg]
    have hk : StacksMoved s (State.chooseLane readRecord s).1 := by
      rw [chooseLane_clean hc hg]
      cases s.work.arbiter with
      | strict => exact StacksMoved.refl s
      | weighted =>
        dsimp only
        cases s.weightedWinner with
        | none => exact ⟨rfl, fun _ => rfl⟩
        | some l => exact StacksMoved.refl s
    generalize State.chooseLane readRecord s = c at hk
    have hf : c.1.memory.flips = [] := by rw [hk.flips]; exact hc
    dsimp only
    split
    · exact hk
    · split
      · exact hk
      · rw [readRecord_clean _ _ hf]
        split
        · exact hk.trans (startTransfer_moved _ _ hf)
        · exact hk
  · rw [grant_stays (by simpa using hg)]
    exact StacksMoved.refl s

/-- R126, R127: what the completion test can change. -/
theorem completeTest_moved (n : StackNo) {s : State} (hc : s.memory.flips = []) : StacksMoved s (s.completeTest n) := by
  unfold State.completeTest State.completeWith
  split
  · dsimp only
    have h := moveComplete_moved s n
    split
    · exact h.trans (grant_moved (by rw [h.flips]; exact hc))
    · exact h
  · exact StacksMoved.refl s

/-- R125: what a seal can change. -/
theorem seal_moved (n : StackNo) (reason : SealReason) {s : State} (hc : s.memory.flips = []) :
    StacksMoved s (s.seal n reason) :=
  (setStack_moved s n _).trans (completeTest_moved n hc)

theorem sealLane_moved (l : Lane) (reason : SealReason) {s : State} (hc : s.memory.flips = []) :
    StacksMoved s (s.sealLane l reason).1 := by
  by_cases hp : s.pfail = true
  · unfold State.sealLane State.sealLaneWith
    rw [if_pos hp]
    exact StacksMoved.refl s
  · cases h : s.openOf l with
    | none =>
      rw [sealLane_none h]
      exact StacksMoved.refl s
    | some n =>
      rw [sealLane_open hc (by simpa using hp) h]
      exact seal_moved n reason hc

/-- R81: what the JOB_END seal can change. -/
theorem sealEndedJob_moved (l : Lane) {s : State} (hc : s.memory.flips = []) : StacksMoved s (s.sealEndedJob l) := by
  unfold State.sealEndedJob
  split
  · exact StacksMoved.refl s
  · split
    · exact StacksMoved.refl s
    · simp only [readRecord_clean _ _ hc]
      split
      · exact StacksMoved.refl s
      · split
        · exact seal_moved _ _ hc
        · exact StacksMoved.refl s

/-! ### Reads within a damage effect

On a clean image a damage effect, whose reads come with less fuel, does what the operation does on its own. -/

theorem pushHeldWith_fuel (k : Nat) (l : Lane) {s : State} (hc : s.memory.flips = []) :
    State.pushHeldWith (readFuel k) l s = s.pushHeld l := by
  unfold State.pushHeld State.pushHeldWith
  simp only [readFuel_clean k _ s hc, readRecord_clean _ s hc]

theorem readAll_fuel (k : Nat) (refs : List RecordRef) {s : State} (hc : s.memory.flips = []) :
    readAll (readFuel k) refs s = s := by
  unfold readAll
  induction refs with
  | nil => rfl
  | cons r rs ih => rw [List.foldl_cons, readFuel_clean k r s hc, ih]

theorem chooseLane_fuel (k : Nat) {s : State} (hc : s.memory.flips = []) :
    State.chooseLane (readFuel k) s = State.chooseLane readRecord s := by
  unfold State.chooseLane
  simp only [readAll_fuel k _ hc, readAll_clean _ s hc]

theorem startTransfer_fuel (k : Nat) (l : Lane) (n : StackNo) {s : State} (hc : s.memory.flips = []) :
    State.startTransfer (readFuel k) l n s = State.startTransfer readRecord l n s := by
  unfold State.startTransfer
  dsimp only
  rw [pushHeldWith_fuel]
  split <;> exact hc

theorem grantWith_fuel (k : Nat) {s : State} (hc : s.memory.flips = []) : State.grantWith (readFuel k) s = s.grant := by
  unfold State.grant State.grantWith
  dsimp only
  rw [chooseLane_fuel k hc]
  split
  · next hg =>
    have hf : (State.chooseLane readRecord s).1.memory.flips = [] := by
      rw [chooseLane_clean hc hg]
      cases s.work.arbiter with
      | strict => exact hc
      | weighted =>
        dsimp only
        cases s.weightedWinner <;> exact hc
    generalize State.chooseLane readRecord s = c at hf
    split
    · rfl
    · split
      · rfl
      · rw [readFuel_clean k _ _ hf, readRecord_clean _ _ hf]
        split
        · exact startTransfer_fuel k _ _ hf
        · rfl
  · rfl

theorem completeWith_fuel (k : Nat) (n : StackNo) {s : State} (hc : s.memory.flips = []) :
    State.completeWith (readFuel k) n s = s.completeTest n := by
  unfold State.completeTest State.completeWith
  dsimp only
  rw [grantWith_fuel]
  rw [(moveComplete_moved s n).flips]
  exact hc

theorem sealLaneWith_fuel (k : Nat) (l : Lane) (reason : SealReason) {s : State} (hc : s.memory.flips = []) :
    State.sealLaneWith (readFuel k) l reason s = s.sealLane l reason := by
  unfold State.sealLane State.sealLaneWith State.sealWith
  simp only [readFuel_clean k _ s hc, readRecord_clean _ s hc]
  split
  · rfl
  · split
    · rfl
    · split
      · exact congrArg (fun t => (t, some _)) (completeWith_fuel k _ (by exact hc))
      · rfl

/-! ### The emptying of a slot -/

/-- R106: the lanes that name a slot become free of it, and nothing else changes. -/
theorem slotGone_lanes (s : State) (j : JobSlot) : s.slotGone j = { s with lanes := (s.slotGone j).lanes } := by
  unfold State.slotGone
  have h : ∀ (ls : List Lane) (t : State),
      ls.foldl (fun t l => if t.laneNames l j then t.laneLosesJob l else t) t =
        { t with lanes := (ls.foldl (fun t l => if t.laneNames l j then t.laneLosesJob l else t) t).lanes } := by
    intro ls
    induction ls with
    | nil => intro t; rfl
    | cons l ls ih =>
      intro t
      simp only [List.foldl_cons]
      rw [ih]
      split <;> rfl
  exact h _ s

/-- R106: a slot that is not ENDING, or that an open row references, is not emptied. -/
theorem emptySlot_stays {s : State} {j : JobSlot}
    (h : s.pfail = true ∨ (s.job j).state ≠ .ending ∨ s.slotReferenced j = true) : s.emptySlot j = s := by
  unfold State.emptySlot
  rw [if_neg]
  rintro ⟨h1, h2, h3⟩
  rcases h with h | h | h <;> simp_all

/-- R106: what the emptying of a slot leaves of the ring and of the image. -/
theorem emptySlot_ring (j : JobSlot) {s : State} (hc : s.memory.flips = []) :
    (s.emptySlot j).ring = s.ring ∧ (s.emptySlot j).memory.flips = [] := by
  unfold State.emptySlot
  split
  · simp only [readRecord_clean _ _ hc]
    split
    · rw [slotGone_lanes]
      exact ⟨rfl, hc⟩
    · exact ⟨rfl, hc⟩
  · exact ⟨rfl, hc⟩

/-! ### The reset -/

/-- R187: RECORD_DAMAGED is not raised for records none of which is damaged. -/
theorem raiseIfDamaged_none {s : State} (refs : List RecordRef) (h : ∀ r ∈ refs, s.isDamaged r = false) :
    s.raiseIfDamaged refs = s := by
  unfold State.raiseIfDamaged
  rw [if_neg]
  simp only [List.any_eq_true, not_exists, not_and]
  intro r hr
  simp [h r hr]

end Sys2Proof.Laws
end

