-- ==== Sys2Proof/Laws/Reset.lean ====
section
/-! SUPPORT. The reset sequence on a clean image with PFAIL left alone: the scan changes nothing, and the other steps run one
after the other with PFAIL negated. -/

namespace Sys2Proof.Laws

open Sys2Proof Sys2Proof.Machine

/-- A clean image and PFAIL negated: what every step of such a reset keeps. -/
structure Quiet (s : State) : Prop where
  clean : s.memory.flips = []
  power : s.pfail = false

/-- R139: the three steps for one lane, run together. -/
def restoreLane (s : State) (l : Lane) : State :=
  ((List.finRange 64).foldl (fun t n => t.restoreComplete l n) (s.restoreSeal l)).restorePush l

theorem foldl_quiet {β : Type} (f : State → β → State) (hf : ∀ s b, Quiet s → Quiet (f s b)) (bs : List β) {s : State}
    (hs : Quiet s) : Quiet (bs.foldl f s) := by
  induction bs generalizing s with
  | nil => exact hs
  | cons b bs ih => exact ih (hf s b hs)

/-! ### Every step keeps PFAIL negated and the image clean -/

theorem restoreGeometry_quiet (cold : Bool) {s : State} (hs : Quiet s) : Quiet (s.restoreGeometry cold) := by
  unfold State.restoreGeometry State.raiseIfDamaged
  split <;> exact ⟨hs.clean, hs.power⟩

theorem restoreJob_quiet (j : JobSlot) {s : State} (hs : Quiet s) : Quiet (s.restoreJob j) := by
  unfold State.restoreJob
  split <;> exact ⟨hs.clean, hs.power⟩

theorem restoreLanes_quiet {s : State} (hs : Quiet s) : Quiet s.restoreLanes := by
  unfold State.restoreLanes State.raiseIfDamaged
  split <;> exact ⟨hs.clean, hs.power⟩

theorem restoreStack_quiet (n : StackNo) {s : State} (hs : Quiet s) : Quiet (s.restoreStack n) := by
  unfold State.restoreStack
  split <;> exact ⟨hs.clean, hs.power⟩

theorem restoreSeal_quiet (l : Lane) {s : State} (hs : Quiet s) : Quiet (s.restoreSeal l) := by
  unfold State.restoreSeal
  split
  · split <;> exact ⟨hs.clean, hs.power⟩
  · exact hs

theorem StacksMoved.quiet {a b : State} (h : StacksMoved a b) (ha : Quiet a) : Quiet b :=
  ⟨h.flips.trans ha.clean, h.pfail.trans ha.power⟩

theorem restoreComplete_quiet (l : Lane) (n : StackNo) {s : State} (hs : Quiet s) : Quiet (s.restoreComplete l n) := by
  unfold State.restoreComplete
  split
  · exact (moveComplete_moved s n).quiet hs
  · exact hs

theorem restorePush_eq (l : Lane) {s : State} (hs : Quiet s) : s.restorePush l = s.pushHeld l := by
  unfold State.restorePush State.pushHeld State.pushHeldWith
  rw [if_neg (by simp [hs.power])]
  simp only [readRecord_clean _ s hs.clean]

theorem restorePush_quiet (l : Lane) {s : State} (hs : Quiet s) : Quiet (s.restorePush l) := by
  rw [restorePush_eq l hs]
  exact (pushHeld_moved l hs.clean).quiet hs

theorem restoreLane_quiet (l : Lane) {s : State} (hs : Quiet s) : Quiet (restoreLane s l) :=
  restorePush_quiet l (foldl_quiet _ (fun _ n ht => restoreComplete_quiet l n ht) _ (restoreSeal_quiet l hs))

theorem grant_quiet {s : State} (hs : Quiet s) : Quiet s.grant := (grant_moved hs.clean).quiet hs

/-! ### The sequence -/

/-- R186: with PFAIL left alone each step runs with PFAIL negated. -/
theorem runSteps_none (fs : List ResetStep) (k : Nat) (s : State) :
    runSteps none k fs s = { fs.foldl (fun t f => f { t with pfail := false }) s with pfail := false } := by
  induction fs generalizing k s with
  | nil => rfl
  | cons f fs ih => exact ih (k + 1) _

theorem pfail_stays {s : State} (h : s.pfail = false) : { s with pfail := false } = s := by rw [← h]

theorem foldl_negated (fs : List ResetStep) (hf : ∀ f ∈ fs, ∀ t, Quiet t → Quiet (f t)) {s : State} (hs : Quiet s) :
    fs.foldl (fun t f => f { t with pfail := false }) s = fs.foldl (fun t f => f t) s ∧
      Quiet (fs.foldl (fun t f => f t) s) := by
  induction fs generalizing s with
  | nil => exact ⟨rfl, hs⟩
  | cons f fs ih =>
    simp only [List.foldl_cons, pfail_stays hs.power]
    exact ih (fun g hg => hf g (List.mem_cons_of_mem f hg)) (hf f List.mem_cons_self s hs)

/-- R187, step 1: on a clean image the scan changes nothing. -/
theorem scanSteps_clean {s : State} (hs : Quiet s) : scanSteps.foldl (fun t f => f t) s = s := by
  unfold scanSteps
  rw [List.foldl_map]
  induction allRecords with
  | nil => rfl
  | cons r rs ih => simpa only [List.foldl_cons, scanRecord_clean r s hs.clean] using ih

theorem laneSteps_foldl (l : Lane) (s : State) : (laneSteps l).foldl (fun t f => f t) s = restoreLane s l := by
  unfold laneSteps restoreLane
  simp only [List.foldl_cons, List.foldl_append, List.foldl_map, List.foldl_nil]

theorem foldl_flatMap_lanes (ls : List Lane) (s : State) :
    (ls.flatMap laneSteps).foldl (fun t f => f t) s = ls.foldl restoreLane s := by
  induction ls generalizing s with
  | nil => rfl
  | cons l ls ih => rw [List.flatMap_cons, List.foldl_append, laneSteps_foldl, ih, List.foldl_cons]

theorem restoreCounters_quiet (cold : Bool) {s : State} (hs : Quiet s) : Quiet (s.restoreCounters cold) := by
  unfold State.restoreCounters State.raiseIfDamaged
  split <;> exact ⟨hs.clean, hs.power⟩

theorem resetSteps_quiet (cold : Bool) : ∀ f ∈ resetSteps cold, ∀ t, Quiet t → Quiet (f t) := by
  intro f hf t ht
  simp only [resetSteps, scanSteps, tableSteps, stackSteps, laneSteps, lastSteps, List.mem_cons, List.mem_append,
    List.mem_map, List.mem_flatMap, List.not_mem_nil, or_false] at hf
  rcases hf with
    ⟨r, _, rfl⟩ | rfl | ((⟨j, _, rfl⟩ | rfl) | ⟨n, _, rfl⟩ | ⟨l, _, rfl | ⟨n, _, rfl⟩ | rfl⟩) | rfl | rfl | rfl
  · rw [scanRecord_clean r t ht.clean]; exact ht
  · exact restoreGeometry_quiet cold ht
  · exact restoreJob_quiet j ht
  · exact restoreLanes_quiet ht
  · exact restoreStack_quiet n ht
  · exact restoreSeal_quiet l ht
  · exact restoreComplete_quiet l n ht
  · exact restorePush_quiet l ht
  · exact ⟨ht.clean, ht.power⟩
  · exact grant_quiet ht
  · exact restoreCounters_quiet cold ht

theorem foldl_negated_start (f : ResetStep) (fs : List ResetStep) (s : State) :
    (f :: fs).foldl (fun t f => f { t with pfail := false }) s =
      (f :: fs).foldl (fun t f => f { t with pfail := false }) { s with pfail := false } := rfl

/-- The state in which steps 2 to 6 of a reset begin, on a clean image. -/
abbrev resetBegun (s : State) (cold : Bool) : State :=
  { (s.beforeScan cold).resetVolatile cold with pfail := false }

/-- R187: the reset sequence on a clean image, with PFAIL left alone: steps 2 to 6, one after the other. -/
theorem resetPart_clean (cold : Bool) {s : State} (hc : s.memory.flips = []) :
    s.resetPart cold none =
      (State.grant
        ((((List.finRange 12).foldl restoreLane
          ((List.finRange 64).foldl State.restoreStack
            ((List.finRange 16).foldl State.restoreJob
              ((resetBegun s cold).restoreGeometry cold)).restoreLanes)).resetShuttle cold).rebuildQueue)).restoreCounters
        cold := by
  have hq : Quiet (resetBegun s cold) := ⟨hc, rfl⟩
  have hn : resetSteps cold = scanRecord .geometry :: (resetSteps cold).tail := rfl
  have hf := foldl_negated (resetSteps cold) (resetSteps_quiet cold) hq
  unfold State.resetPart
  rw [runSteps_none, hn, foldl_negated_start, ← hn, hf.1, pfail_stays hf.2.power]
  unfold resetSteps tableSteps stackSteps lastSteps
  simp only [List.foldl_append, List.foldl_cons, List.foldl_map, List.foldl_nil, scanSteps_clean hq,
    foldl_flatMap_lanes]

end Sys2Proof.Laws
end

