-- ==== Sys2Proof/Laws/Stable.lean ====
section
/-! SUPPORT. What every operation keeps. `Stable P` says that a predicate looks only at the parts of the state named by
`view` and is kept by the few operations that change those parts; then every shared operation keeps `P`. -/

namespace Sys2Proof.Laws

open Sys2Proof Sys2Proof.Machine

/-- The parts of the state that the invariants of Safety.lean speak of, and the queue of commands. -/
structure View where
  modes : ModeController
  expectation : Option Pos
  f16 : Int
  settle : Nat
  sending : Option (TrimMessage × LinkRate)
  waiting : List TrimMessage
  kept : List (Option Byte)
  scrub : Nat
  pending : List Instr

/-- The view of a state. -/
def view (s : State) : View where
  modes := s.modes
  expectation := s.position.expectation
  f16 := s.register.f16
  settle := s.register.settle
  sending := s.register.sending
  waiting := s.register.waiting
  kept := s.verdict.kept
  scrub := s.memory.scrub
  pending := s.pending

/-- A predicate that depends on the view alone and is kept by each update of the view that an operation makes. -/
structure Stable (P : State → Prop) : Prop where
  same : ∀ {s t : State}, view t = view s → P s → P t
  parked : ∀ {s : State}, P s → s.modes.mode = .draining → P { s with modes := { s.modes with mode := .parked } }
  draining : ∀ {s : State}, P s →
    P { s with
        modes := { mode := .draining, target := .park }
        position := { s.position with expectation := none, reverseDue := false } }
  rise : ∀ {s : State}, P s → s.modes.mode = .seek → P { s with modes := { s.modes with mode := .tracking } }
  fall : ∀ {s : State}, P s → s.modes.mode = .tracking → P { s with modes := { s.modes with mode := .seek } }
  seek : ∀ {s : State}, P s → P { s with modes := { mode := .seek, target := .run } }
  expect : ∀ {s : State} (x : Pos), P s → (s.modes.mode = .seek ∨ s.modes.mode = .tracking) →
    P { s with position := { s.position with expectation := some x } }
  unsync : ∀ {s : State}, P s → P { s with position := { s.position with expectation := none } }
  settle : ∀ {s : State} (k : Nat), k ≤ 32 → P s → P (s.setSettle k)
  sample : ∀ {s : State} (e : Int) (k : Nat), -32767 ≤ e → e ≤ 32767 → P s →
    P { s with register := { s.register with f16 := filterNext s.register.f16 e k } }
  queued : ∀ {s : State} (m : TrimMessage), P s → P (s.queueTrim m)
  sent : ∀ {s : State}, P s → P s.messageSent
  keep : ∀ {s : State} (v : VerdictReceiver), v.kept.length ≤ 6 → P s → P (s.setVerdict v)
  join : ∀ {s : State} (v : VerdictReceiver) (c : Option Byte), v.kept = s.verdict.kept → P s → P (s.setVerdict (v.join c))
  scrub : ∀ {s : State} (k : Nat), k ≤ 96 → P s → P { s with memory := { s.memory with scrub := k } }
  reset : ∀ {s : State} (cold : Bool), P s → P (s.resetVolatile cold)

variable {P : State → Prop}

/-- A reader that keeps the predicate. -/
def Keeps (P : State → Prop) (rd : Reader) : Prop := ∀ (ref : RecordRef) (s : State), P s → P (rd ref s)

theorem foldl_keeps {β : Type} (f : State → β → State) (hf : ∀ s b, P s → P (f s b)) (bs : List β) {s : State}
    (hs : P s) : P (bs.foldl f s) := by
  induction bs generalizing s with
  | nil => exact hs
  | cons b bs ih => exact ih (hf s b hs)

/-! ### Updates outside the view -/

theorem foldl_view {β : Type} (f : State → β → State) (hf : ∀ s b, view (f s b) = view s) (bs : List β) (s : State) :
    view (bs.foldl f s) = view s := by
  induction bs generalizing s with
  | nil => rfl
  | cons b bs ih => exact (ih (f s b)).trans (hf s b)

theorem view_misread (s : State) (ref : RecordRef) : view (s.misread ref) = view s := by
  unfold State.misread
  split
  · rfl
  · cases ref <;> rfl

theorem view_correct (s : State) (ref : RecordRef) : view (s.correct ref) = view s := by
  have hm := view_misread s ref
  unfold State.correct
  dsimp only
  split
  · exact hm
  · exact hm

theorem view_rewrite (s : State) (ref : RecordRef) : view (s.rewrite ref) = view s := by
  cases ref <;> rfl

theorem view_markDamaged (s : State) (ref : RecordRef) : view (s.markDamaged ref) = view s := by
  unfold State.markDamaged
  split
  · rfl
  · exact view_rewrite s ref

theorem view_moveComplete (s : State) (n : StackNo) : view (s.moveComplete n) = view s := by
  unfold State.moveComplete
  dsimp only
  split
  · rfl
  · split <;> rfl

theorem view_laneLosesJob (s : State) (l : Lane) : view (s.laneLosesJob l) = view s := rfl

theorem view_slotGone (s : State) (j : JobSlot) : view (s.slotGone j) = view s := by
  unfold State.slotGone
  apply foldl_view
  intro t l
  split <;> rfl

theorem view_setEntry (s : State) (i : RingSlot) (l : Lane) (e : LaneEntry) : view (s.setEntry i l e) = view s := by
  unfold State.setEntry
  split <;> rfl

theorem view_raise (s : State) (a : Attention) : view (s.raise a) = view s := rfl

theorem view_gatesToWaste (s : State) : view s.gatesToWaste = view s := rfl

theorem view_setStack (s : State) (n : StackNo) (r : StackRecord) : view (s.setStack n r) = view s := rfl

theorem view_setJob (s : State) (j : JobSlot) (r : JobRecord) : view (s.setJob j r) = view s := rfl

theorem view_setGeometry (s : State) (g : GeometryRecord) : view (s.setGeometry g) = view s := rfl

theorem view_clearFlips (s : State) (ref : RecordRef) : view (s.clearFlips ref) = view s := rfl

theorem view_freeCount (s : State) (k : Nat) : view { s with freeCount := k } = view s := rfl

theorem view_pfail (s : State) (b : Bool) : view { s with pfail := b } = view s := rfl

theorem view_port (s : State) (b : ResponseSlot) : view { s with port := b } = view s := rfl

theorem view_loadGeometry (s : State) (g : Settings) : view (s.loadGeometry g) = view s := rfl

theorem view_freshCredits (s : State) :
    view { s.reloadCredits with shuttle := { s.reloadCredits.shuttle with lastWinner := none } } = view s := rfl

theorem view_resetShuttle (s : State) (cold : Bool) : view (s.resetShuttle cold) = view s := rfl

theorem view_rebuildQueue (s : State) : view s.rebuildQueue = view s := rfl

theorem view_beforeScan (s : State) (cold : Bool) : view (s.beforeScan cold) = view s := rfl

theorem view_countersLoaded (s : State) (k : Vector CounterState 4) (a : AttentionLogic) :
    view { s with counters := k, attention := a } = view s := rfl

theorem view_chooseReload (s : State) : view s.reloadCredits = view s := rfl

/-! ### Record memory and what a read sets off -/

section
variable (h : Stable P)
include h

theorem pushHeldWith_keeps {rd : Reader} (hr : Keeps P rd) (l : Lane) {s : State} (hs : P s) :
    P (State.pushHeldWith rd l s) := by
  unfold State.pushHeldWith
  dsimp only
  split
  · exact hs
  · split
    · exact hs
    · split
      · exact h.same (by rfl) (hr _ _ hs)
      · exact hr _ _ hs

omit h in
theorem readAll_keeps {rd : Reader} (hr : Keeps P rd) (refs : List RecordRef) {s : State} (hs : P s) :
    P (readAll rd refs s) := foldl_keeps _ (fun s r hs => hr r s hs) refs hs

theorem startTransfer_keeps {rd : Reader} (hr : Keeps P rd) (l : Lane) (n : StackNo) {s : State} (hs : P s) :
    P (State.startTransfer rd l n s) := by
  unfold State.startTransfer
  dsimp only
  refine h.same (by rfl) (pushHeldWith_keeps h hr l ?_)
  split
  · exact h.same (by rfl) hs
  · exact h.same (by rfl) hs

theorem chooseLane_keeps {rd : Reader} (hr : Keeps P rd) {s : State} (hs : P s) : P (State.chooseLane rd s).1 := by
  unfold State.chooseLane
  split
  · exact readAll_keeps hr _ hs
  · split
    · exact hs
    · dsimp only
      split
      · exact h.same (by rfl) (readAll_keeps hr _ hs)
      · exact readAll_keeps hr _ hs

theorem grantWith_keeps {rd : Reader} (hr : Keeps P rd) {s : State} (hs : P s) : P (State.grantWith rd s) := by
  have hc := chooseLane_keeps h hr hs
  unfold State.grantWith
  dsimp only
  split
  · split
    · exact hc
    · split
      · exact hc
      · split
        · exact startTransfer_keeps h hr _ _ (hr _ _ hc)
        · exact hr _ _ hc
  · exact hs

theorem completeWith_keeps {rd : Reader} (hr : Keeps P rd) (n : StackNo) {s : State} (hs : P s) :
    P (State.completeWith rd n s) := by
  unfold State.completeWith
  dsimp only
  split
  · split
    · exact grantWith_keeps h hr (h.same (view_moveComplete s n) hs)
    · exact h.same (view_moveComplete s n) hs
  · exact hs

theorem sealWith_keeps {rd : Reader} (hr : Keeps P rd) (n : StackNo) (reason : SealReason) {s : State} (hs : P s) :
    P (State.sealWith rd n reason s) := completeWith_keeps h hr n (h.same (by rfl) hs)

theorem sealLaneWith_keeps {rd : Reader} (hr : Keeps P rd) (l : Lane) (reason : SealReason) {s : State} (hs : P s) :
    P (State.sealLaneWith rd l reason s).1 := by
  unfold State.sealLaneWith
  split
  · exact hs
  · split
    · exact hs
    · dsimp only
      split
      · exact sealWith_keeps h hr _ _ (hr _ _ hs)
      · exact hr _ _ hs

theorem saveTrimWith_keeps {rd : Reader} (hr : Keeps P rd) {s : State} (hs : P s) : P (State.saveTrimWith rd s) := by
  unfold State.saveTrimWith
  dsimp only
  split
  · exact hs
  · split
    · exact hr _ _ hs
    · exact h.same (by rfl) (hr _ _ hs)

theorem drainWith_keeps {rd : Reader} (hr : Keeps P rd) {s : State} (hs : P s) : P (State.drainWith rd s) := by
  unfold State.drainWith
  split
  · next hd =>
    exact h.same (view_raise _ _)
      (saveTrimWith_keeps h hr (h.same (view_gatesToWaste _) (h.parked hs hd.1)))
  · exact hs

theorem enterDrainingWith_keeps {rd : Reader} (hr : Keeps P rd) {s : State} (hs : P s) :
    P (State.enterDrainingWith rd s) := drainWith_keeps h hr (h.draining hs)

theorem stackDamagedWith_keeps {rd : Reader} (hr : Keeps P rd) (was : StackRecord) (n : StackNo) {s : State}
    (hs : P s) : P (State.stackDamagedWith rd was n s) := by
  unfold State.stackDamagedWith
  split
  · exact hs
  · exact hs
  · exact h.same (by rfl) hs
  · exact h.same (by rfl) hs
  · split
    · exact h.same (by rfl) hs
    · exact grantWith_keeps h hr (h.same (by rfl) (pushHeldWith_keeps h hr _ hs))
  · exact h.same (by rfl) hs
  · exact h.same (by rfl) hs
  · exact hs

theorem ownerEffectsWith_keeps {rd : Reader} (hr : Keeps P rd) (b : State) (ref : RecordRef) {s : State} (hs : P s) :
    P (State.ownerEffectsWith rd b ref s) := by
  unfold State.ownerEffectsWith
  cases ref with
  | geometry =>
    show P (State.geometryDamagedWith rd s)
    unfold State.geometryDamagedWith
    dsimp only
    have ht : P { s with register := { s.register with trim := 0 } } := h.same (by rfl) hs
    split
    · exact enterDrainingWith_keeps h hr ht
    · exact ht
  | job j => exact h.same (view_slotGone s j) hs
  | lane l => exact sealLaneWith_keeps h hr l _ (h.same (by rfl) hs)
  | stack n => exact stackDamagedWith_keeps h hr _ n hs
  | counter c => exact h.same (by rfl) hs

theorem readFuel_keeps (k : Nat) : Keeps P (readFuel k) := by
  induction k with
  | zero => intro ref s hs; exact hs
  | succ k ih =>
    intro ref s hs
    unfold readFuel
    split
    · exact hs
    · split
      · exact ownerEffectsWith_keeps h ih s ref (h.same (view_markDamaged s ref) hs)
      · exact h.same (view_correct s ref) hs

/-- Every read keeps a stable predicate, whatever the read finds. -/
theorem readRecord_keeps : Keeps P readRecord := readFuel_keeps h 98

theorem read_keeps (ref : RecordRef) {s : State} (hs : P s) : P (readRecord ref s) := readRecord_keeps h ref s hs

theorem grant_keeps {s : State} (hs : P s) : P s.grant := grantWith_keeps h (readRecord_keeps h) hs

theorem completeTest_keeps (n : StackNo) {s : State} (hs : P s) : P (s.completeTest n) :=
  completeWith_keeps h (readRecord_keeps h) n hs

theorem seal_keeps (n : StackNo) (r : SealReason) {s : State} (hs : P s) : P (s.seal n r) :=
  sealWith_keeps h (readRecord_keeps h) n r hs

theorem sealLane_keeps (l : Lane) (r : SealReason) {s : State} (hs : P s) : P (s.sealLane l r).1 :=
  sealLaneWith_keeps h (readRecord_keeps h) l r hs

theorem drainTest_keeps {s : State} (hs : P s) : P s.drainTest := drainWith_keeps h (readRecord_keeps h) hs

theorem enterDraining_keeps {s : State} (hs : P s) : P s.enterDraining :=
  enterDrainingWith_keeps h (readRecord_keeps h) hs

theorem pushHeld_keeps (l : Lane) {s : State} (hs : P s) : P (s.pushHeld l) :=
  pushHeldWith_keeps h (readRecord_keeps h) l hs

theorem emptySlot_keeps (j : JobSlot) {s : State} (hs : P s) : P (s.emptySlot j) := by
  unfold State.emptySlot
  dsimp only
  split
  · split
    · exact h.same (view_slotGone _ j) (h.same (by rfl) (read_keeps h _ hs))
    · exact read_keeps h _ hs
  · exact hs

theorem scanRecord_keeps (ref : RecordRef) {s : State} (hs : P s) : P (scanRecord ref s) := by
  unfold scanRecord
  split
  · exact hs
  · split
    · exact h.same (view_markDamaged s ref) hs
    · exact h.same (view_correct s ref) hs

/-! ### Die register -/

omit h in
theorem rawErrorOf_bounds (p e : Pos) : -32767 ≤ rawErrorOf p e ∧ rawErrorOf p e ≤ 32767 := by
  unfold rawErrorOf clampInt
  omega

theorem associate_keeps (i : RingSlot) (r : RowRecord) (p : Pos) {s : State} (hs : P s) : P (s.associate i r p) := by
  unfold State.associate
  dsimp only
  apply h.queued
  have hb := rawErrorOf_bounds p r.expected
  have hf : P { s with register := { s.register with
      f16 := (registerLoop s.work s.register.f16 s.register.trim (rawErrorOf p r.expected)).f16 } } := by
    unfold registerLoop
    split
    · exact h.same (by rfl) hs
    · exact h.sample _ _ hb.1 hb.2 hs
  split
  · exact h.same (by rfl) hf
  · exact h.same (by rfl) hf

theorem missCut_keeps (i : RingSlot) (r : RowRecord) {s : State} (hs : P s) : P (s.missCut i r) :=
  h.queued _ (h.same (by rfl) hs)

theorem takeDieIndex_keeps {s : State} (hs : P s) : P s.takeDieIndex := by
  unfold State.takeDieIndex
  split
  · exact h.same (by rfl) hs
  · split
    · exact h.same (by rfl) hs
    · split
      · exact hs
      · exact associate_keeps h _ _ _ hs

theorem takeDieWindowEnd_keeps {s : State} (hs : P s) : P s.takeDieWindowEnd := by
  unfold State.takeDieWindowEnd
  split
  · exact hs
  · split
    · exact hs
    · exact missCut_keeps h _ _ hs

theorem riseTest_keeps {s : State} (hs : P s) : P s.riseTest := by
  unfold State.riseTest
  split
  · next hm => exact h.same (by rfl) (h.rise hs hm.1)
  · exact hs

/-! ### Rows -/

theorem readForOpening_keeps (l : Lane) {s : State} (hs : P s) : P (s.readForOpening l) := by
  unfold State.readForOpening
  dsimp only
  split
  · exact read_keeps h _ hs
  · split
    · exact read_keeps h _ (read_keeps h _ hs)
    · exact read_keeps h _ hs

theorem openLane_keeps (i : RingSlot) (k : RowNo) (l : Lane) {s : State} (hs : P s) :
    P (State.openLane i k s l) := by
  unfold State.openLane
  dsimp only
  split
  · exact h.same (by rfl) (readForOpening_keeps h l hs)
  · exact h.same (by rfl) (readForOpening_keeps h l hs)

theorem settleAtOpening_keeps (how : Opening) {s : State} (hs : P s) : P (s.settleAtOpening how) := by
  unfold State.settleAtOpening
  split
  · split
    · exact riseTest_keeps h (h.settle _ (by omega) hs)
    · exact hs
    · exact h.settle 0 (by omega) hs
  · exact hs

theorem scrub_keeps {s : State} (hs : P s) : P s.scrub := by
  unfold State.scrub
  exact h.scrub _ (by omega) (read_keeps h _ hs)

theorem dropZone_keeps (m : Pos) {s : State} (hs : P s) : P (s.dropZone m) := by
  unfold State.dropZone
  split
  · exact hs
  · split
    · exact h.same (by rfl) hs
    · exact hs

theorem openRow_keeps (how : Opening) (m : Pos) {s : State} (hs : P s) : P (s.openRow how m) := by
  unfold State.openRow
  exact dropZone_keeps h m (scrub_keeps h (settleAtOpening_keeps h how
    (foldl_keeps _ (fun s l hs => openLane_keeps h _ _ l hs) _ (h.same (by rfl) hs))))

theorem reportRetired_keeps (r : RowRecord) {s : State} (hs : P s) : P (s.reportRetired r) := by
  unfold State.reportRetired
  refine foldl_keeps _ (fun s j hs => ?_) _ hs
  split
  · exact emptySlot_keeps h j hs
  · exact hs

theorem retireFuel_keeps (k : Nat) {s : State} (hs : P s) : P (retireFuel k s) := by
  induction k generalizing s with
  | zero => exact hs
  | succ k ih =>
    unfold retireFuel
    dsimp only
    split
    · exact hs
    · split
      · have hu := reportRetired_keeps h (s := { s.setRow (ringSlot s.oldestNumber) { ‹RowRecord› with phase := .retired } with
          ring := { (s.setRow (ringSlot s.oldestNumber) { ‹RowRecord› with phase := .retired }).ring with
            openCount := (s.setRow (ringSlot s.oldestNumber) { ‹RowRecord› with phase := .retired }).ring.openCount - 1 } })
          ‹RowRecord› (h.same (by rfl) hs)
        split
        · exact drainTest_keeps h hu
        · exact ih hu
      · exact hs

theorem retireRows_keeps {s : State} (hs : P s) : P s.retireRows := retireFuel_keeps h _ hs

/-! ### Gates and counters -/

theorem wasteLabel_keeps (i : RingSlot) (row : RowNo) (l : Lane) (e : LaneEntry) (w : WasteReason) {s : State}
    (hs : P s) : P (s.wasteLabel i row l e w) := h.same (view_setEntry _ i l _) (h.same (by rfl) hs)

theorem sampleLabel_keeps (i : RingSlot) (row : RowNo) (l : Lane) (e : LaneEntry) {s : State} (hs : P s) :
    P (s.sampleLabel i row l e) := h.same (view_setEntry _ i l _) (h.same (by rfl) hs)

theorem sealEndedJob_keeps (l : Lane) {s : State} (hs : P s) : P (s.sealEndedJob l) := by
  unfold State.sealEndedJob
  dsimp only
  split
  · exact hs
  · split
    · exact hs
    · split
      · exact read_keeps h _ hs
      · split
        · exact seal_keeps h _ _ (read_keeps h _ hs)
        · exact read_keeps h _ hs

theorem commitLabel_keeps (i : RingSlot) (l : Lane) (e : LaneEntry) (job : JobRecord) (n : StackNo) {s : State}
    (hs : P s) : P (s.commitLabel i l e job n) := by
  unfold State.commitLabel
  dsimp only
  have ht : P (s.setEntry i l { e with disposition := .stack n, landing := .awaiting }) :=
    h.same (view_setEntry s i l _) hs
  split
  · exact seal_keeps h _ _ (h.same (by rfl) ht)
  · exact h.same (by rfl) ht

theorem readFree_keeps (k : Nat) {s : State} (hs : P s) : P (State.readFree k s) := by
  induction k generalizing s with
  | zero => exact hs
  | succ k ih =>
    unfold State.readFree
    dsimp only
    split
    · exact hs
    · split
      · exact read_keeps h _ hs
      · exact ih (read_keeps h _ hs)

theorem blockLabel_keeps (i : RingSlot) (row : RowNo) (l : Lane) (e : LaneEntry) (c : BlockedCause) {s : State}
    (hs : P s) : P (s.blockLabel i row l e c) := wasteLabel_keeps h _ _ _ _ _ (h.same (by rfl) hs)

theorem openAndCommit_keeps (i : RingSlot) (l : Lane) (e : LaneEntry) (j : JobSlot) (n : StackNo) {s : State}
    (hs : P s) : P (s.openAndCommit i l e j n) := commitLabel_keeps h _ _ _ _ _ (h.same (by rfl) hs)

theorem commitToNew_keeps (i : RingSlot) (row : RowNo) (l : Lane) (e : LaneEntry) (j : JobSlot) {s : State}
    (hs : P s) : P (s.commitToNew i row l e j) := by
  unfold State.commitToNew
  split
  · exact blockLabel_keeps h _ _ _ _ _ hs
  · split
    · exact blockLabel_keeps h _ _ _ _ _ hs
    · exact openAndCommit_keeps h _ _ _ _ _ hs

theorem readForDecision_keeps (l : Lane) {s : State} (hs : P s) : P (s.readForDecision l) :=
  readFree_keeps h 64 (readAll_keeps (readRecord_keeps h) _ hs)

theorem commitStage_keeps (i : RingSlot) (row : RowNo) (l : Lane) (e : LaneEntry) (j : JobSlot) {s : State}
    (hs : P s) : P (s.commitStage i row l e j) := by
  unfold State.commitStage
  split
  · exact commitToNew_keeps h _ _ _ _ _ hs
  · split
    · exact commitLabel_keeps h _ _ _ _ _ hs
    · exact commitToNew_keeps h _ _ _ _ _ (seal_keeps h _ _ hs)

theorem decideLane_keeps (i : RingSlot) (l : Lane) {s : State} (hs : P s) : P (State.decideLane i s l) := by
  unfold State.decideLane
  cases s.rowAt i with
  | none => exact hs
  | some r =>
    dsimp only
    cases r.lanes[l].snapshot with
    | none =>
      dsimp only
      split
      · exact wasteLabel_keeps h _ _ _ _ _ (sealEndedJob_keeps h l (readForDecision_keeps h l hs))
      · split
        · exact wasteLabel_keeps h _ _ _ _ _ (readForDecision_keeps h l hs)
        · exact hs
    | some j =>
      dsimp only
      have ht := read_keeps h (.job j) hs
      have hu := readForDecision_keeps h l ht
      split
      · exact wasteLabel_keeps h _ _ _ _ _ (sealEndedJob_keeps h l hu)
      · split
        · exact wasteLabel_keeps h _ _ _ _ _ hu
        · split
          · exact wasteLabel_keeps h _ _ _ _ _ ht
          · split
            · exact sampleLabel_keeps h _ _ _ _ ht
            · exact commitStage_keeps h _ _ _ _ _ hu

omit h in
theorem view_thresholdReached (s : State) (c : CounterNo) : view (s.thresholdReached c) = view s := by
  unfold State.thresholdReached
  dsimp only
  split
  · split <;> rfl
  · rfl

omit h in
theorem view_windowPublish (s : State) (c : CounterNo) : view (s.windowPublish c) = view s := by
  unfold State.windowPublish
  dsimp only
  split
  · exact view_thresholdReached _ c
  · rfl

omit h in
theorem view_evaluateCounter (r : RowRecord) (s : State) (c : CounterNo) : view (State.evaluateCounter r s c) = view s := by
  unfold State.evaluateCounter
  dsimp only
  split
  · rfl
  · split
    · exact view_windowPublish _ c
    · split
      · exact view_thresholdReached _ c
      · rfl

theorem closeDecision_keeps (i : RingSlot) {s : State} (hs : P s) : P (s.closeDecision i) := by
  unfold State.closeDecision
  dsimp only
  split
  · exact hs
  · refine retireRows_keeps h (h.same (foldl_view _ (fun s c => view_evaluateCounter _ s c) _ _) ?_)
    unfold State.setGates
    split
    · exact h.same (by rfl) hs
    · exact h.same (by rfl) hs

theorem decideRow_keeps (i : RingSlot) {s : State} (hs : P s) : P (s.decideRow i) := by
  unfold State.decideRow
  dsimp only
  split
  · exact hs
  · refine closeDecision_keeps h i (foldl_keeps _ (fun s l hs => decideLane_keeps h i l hs) _ ?_)
    split
    · exact missCut_keeps h _ _ hs
    · exact hs

theorem takeGatePoint_keeps {s : State} (hs : P s) : P s.takeGatePoint := by
  unfold State.takeGatePoint
  split
  · exact hs
  · split
    · exact hs
    · exact decideRow_keeps h _ hs

/-! ### Landing -/

theorem creditStack_keeps (l : Lane) (e : LaneEntry) (n : StackNo) {s : State} (hs : P s) : P (s.creditStack l e n) := by
  unfold State.creditStack
  dsimp only
  split
  · exact hs
  · split
    · exact read_keeps h _ hs
    · split
      · exact h.same (view_freeCount _ _) (h.same (view_setStack _ _ _) (read_keeps h _ (read_keeps h _ hs)))
      · exact h.same (view_setStack _ _ _) (read_keeps h _ hs)

theorem creditLanding_keeps (i : RingSlot) (r : RowRecord) (l : Lane) {s : State} (hs : P s) :
    P (s.creditLanding i r l) := by
  unfold State.creditLanding
  dsimp only
  have ha : P (s.setEntry i l { r.lanes[l] with landing := .landed }) := h.same (view_setEntry s i l _) hs
  split
  · exact retireRows_keeps h (completeTest_keeps h _ (h.same (by rfl) (creditStack_keeps h l _ _ ha)))
  · exact retireRows_keeps h (h.same (by rfl) ha)

theorem markStray_keeps (n : StackNo) {s : State} (hs : P s) : P (s.markStray n) := by
  unfold State.markStray
  dsimp only
  split
  · exact read_keeps h _ hs
  · exact h.same (by rfl) (read_keeps h _ hs)

theorem strayLanding_keeps (l : Lane) {s : State} (hs : P s) : P (s.strayLanding l) := by
  unfold State.strayLanding
  dsimp only
  split
  · exact h.same (by rfl) hs
  · split
    · exact h.same (by rfl) hs
    · exact markStray_keeps h _ (h.same (by rfl) hs)

omit h in
theorem view_jamTest (s : State) (l : Lane) : view (s.jamTest l) = view s := by
  unfold State.jamTest
  split
  · rfl
  · rfl
  · split <;> rfl

theorem chargeLoss_keeps (n : StackNo) {s : State} (hs : P s) : P (s.chargeLoss n) := by
  unfold State.chargeLoss
  dsimp only
  split
  · exact hs
  · split
    · exact read_keeps h _ hs
    · exact h.same (by rfl) (read_keeps h _ hs)

theorem loseLabel_keeps (i : RingSlot) (l : Lane) {s : State} (hs : P s) : P (State.loseLabel i s l) := by
  unfold State.loseLabel
  dsimp only
  split
  · exact hs
  · next r _ =>
    split
    · have ha : P (s.setEntry i l { r.lanes[l] with landing := .lost }) := h.same (view_setEntry s i l _) hs
      split
      · exact completeTest_keeps h _ (h.same (view_jamTest _ l) (h.same (by rfl) (chargeLoss_keeps h _ ha)))
      · exact h.same (view_jamTest _ l) (h.same (by rfl) ha)
    · exact hs

theorem takeComplete_keeps (n : StackNo) {s : State} (hs : P s) : P (s.takeComplete n) := by
  unfold State.takeComplete
  split
  · exact completeTest_keeps h n (read_keeps h _ hs)
  · exact hs

theorem takeLandingEnd_keeps {s : State} (hs : P s) : P s.takeLandingEnd := by
  unfold State.takeLandingEnd
  split
  · exact hs
  · exact retireRows_keeps h (foldl_keeps _ (fun s l hs => loseLabel_keeps h _ l hs) _ hs)

theorem takePocket_keeps (l : Lane) {s : State} (hs : P s) : P (s.takePocket l) := by
  unfold State.takePocket
  split
  · exact h.same (by rfl) hs
  · split
    · exact strayLanding_keeps h l hs
    · split
      · exact hs
      · exact creditLanding_keeps h _ _ l hs

/-! ### Web position -/

theorem acceptMark_keeps (how : Opening) (p : Pos) {s : State} (hs : P s)
    (hm : s.modes.mode = .seek ∨ s.modes.mode = .tracking) : P (s.acceptMark how p) := by
  refine openRow_keeps h how p ?_
  exact h.same (by rfl) (h.expect (posAdd p s.work.pNom) hs hm)

omit h in
theorem running_of_not_idle {m : LineMode} (hn : ¬(m = .parked ∨ m = .draining)) : m = .seek ∨ m = .tracking := by
  cases m <;> simp at hn ⊢

theorem takeMark_keeps {s : State} (hs : P s) : P s.takeMark := by
  unfold State.takeMark
  split
  · exact h.same (by rfl) hs
  · exact h.same (by rfl) hs
  · exact h.same (by rfl) hs
  · next hf =>
    refine acceptMark_keeps h _ _ hs (running_of_not_idle ?_)
    intro hn
    unfold State.markFate at hf
    rw [if_pos hn] at hf
    cases hf
  · next hf =>
    refine acceptMark_keeps h _ _ hs (running_of_not_idle ?_)
    intro hn
    unfold State.markFate at hf
    rw [if_pos hn] at hf
    cases hf

theorem fall_keeps (a : Bool) {s : State} (hs : P s) : P (s.fall a) := by
  unfold State.fall
  dsimp only
  have ht : P (s.setSettle 0) := h.settle 0 (by omega) hs
  by_cases hm : s.modes.mode = .tracking
  · rw [if_pos hm, if_pos (Or.inr hm)]
    exact h.same (by rfl) (h.fall ht hm)
  · rw [if_neg hm]
    split
    · exact h.same (by rfl) ht
    · exact ht

theorem lossTest_keeps {s : State} (hs : P s) : P s.lossTest := by
  unfold State.lossTest
  split
  · exact fall_keeps h _ (h.unsync hs)
  · exact hs

theorem takeSynthetic_keeps {s : State} (hs : P s) : P s.takeSynthetic := by
  unfold State.takeSynthetic
  split
  · exact hs
  · next x hx =>
    refine lossTest_keeps h (openRow_keeps h _ _ ?_)
    refine h.same (by rfl) (h.expect (posAdd x s.work.pNom) hs ?_)
    unfold State.dueSynthetic at hx
    split at hx
    · assumption
    · cases hx

theorem takeReverse_keeps {s : State} (hs : P s) : P s.takeReverse := by
  unfold State.takeReverse
  split
  · refine fall_keeps h _ ?_
    exact h.same (by rfl) (h.unsync hs)
  · exact hs

theorem takeSplice_keeps {s : State} (hs : P s) : P s.takeSplice := h.same (by rfl) hs

theorem takeZoneExpiry_keeps {s : State} (hs : P s) : P s.takeZoneExpiry := by
  unfold State.takeZoneExpiry
  split
  · exact h.same (by rfl) hs
  · exact hs

theorem takeSpacingExpiry_keeps {s : State} (hs : P s) : P s.takeSpacingExpiry := by
  unfold State.takeSpacingExpiry
  split
  · exact h.same (by rfl) hs
  · exact hs

omit h in
theorem view_countEncoder (e : EncoderStep) (s : State) : view (s.countEncoder e) = view s := by
  cases e
  · show view (s.setPosition s.position.countUp).reverseCheck = view s
    unfold PositionUnit.countUp
    split <;> rfl
  · rfl
  · rfl

/-! ### Thresholds -/

theorem takeDue_keeps (e : DueEvent) {s : State} (hs : P s) : P (e.take s) := by
  cases e
  · exact takeSynthetic_keeps h hs
  · exact takeZoneExpiry_keeps h hs
  · exact takeSpacingExpiry_keeps h hs
  · exact takeReverse_keeps h hs
  · exact takeDieWindowEnd_keeps h hs
  · exact takeGatePoint_keeps h hs
  · exact takeLandingEnd_keeps h hs

theorem takeOneDue_keeps {s : State} (hs : P s) : P s.takeOneDue := by
  unfold State.takeOneDue
  split
  · exact hs
  · exact takeDue_keeps h _ hs
  · exact takeDue_keeps h _ (h.same (by rfl) hs)

theorem settleFuel_keeps (k : Nat) {s : State} (hs : P s) : P (settleFuel k s) := by
  induction k generalizing s with
  | zero => exact hs
  | succ k ih =>
    unfold settleFuel
    split
    · exact hs
    · exact ih (takeOneDue_keeps h hs)

theorem settleDue_keeps {s : State} (hs : P s) : P s.settle := settleFuel_keeps h 512 hs

/-! ### Verdicts -/

theorem takeCharacter_keeps (c : Option Byte) {s : State} (hs : P s) : P (s.takeCharacter c) := by
  unfold State.takeCharacter
  split
  · exact hs
  · refine h.keep _ ?_ hs
    unfold VerdictReceiver.join VerdictReceiver.empty
    simp
  · exact h.join _ c rfl hs

theorem lateLane_keeps (r : RowRecord) (codes : List Byte) (l : Lane) {s : State} (hs : P s) :
    P (State.lateLane r codes s l) := by
  unfold State.lateLane
  dsimp only
  split
  · split
    · split
      · exact h.same (by rfl) (read_keeps h _ hs)
      · exact read_keeps h _ hs
    · exact hs
  · exact hs

theorem takeMessage_keeps (tag : Byte) (codes : List Byte) {s : State} (hs : P s) : P (s.takeMessage tag codes) := by
  unfold State.takeMessage
  split
  · split
    · exact foldl_keeps _ (fun s l hs => lateLane_keeps h _ _ l hs) _ (h.same (by rfl) hs)
    · exact h.same (by rfl) hs
  · exact h.same (by rfl) hs
  · exact h.same (by rfl) hs

theorem takeIdleGap_keeps {s : State} (hs : P s) : P s.takeIdleGap := by
  unfold State.takeIdleGap
  split
  · exact h.same (by rfl) hs
  · exact hs
  · unfold State.judge
    dsimp only
    have ht : P (s.setVerdict (s.verdict.empty .idle)) := h.keep _ (by simp [VerdictReceiver.empty]) hs
    split
    · exact takeMessage_keeps h _ _ ht
    · exact h.same (by rfl) ht

/-! ### The shuttle and the queue -/

omit h in
theorem view_appendDelivered (s : State) (n : StackNo) : view (s.appendDelivered n) = view s := by
  unfold State.appendDelivered
  split <;> rfl

theorem takeDone_keeps {s : State} (hs : P s) : P s.takeDone := by
  unfold State.takeDone
  split
  · unfold State.endTransfer
    split
    · exact h.same (by rfl) hs
    · exact grant_keeps h (h.same (by rfl) (h.same (view_appendDelivered _ _) (read_keeps h _ hs)))
  · exact h.same (by rfl) hs
  · exact h.same (by rfl) hs

omit h in
theorem view_quarantineTransfer (s : State) (n : StackNo) : view (s.quarantineTransfer n) = view s := by
  unfold State.quarantineTransfer
  split <;> rfl

theorem failTransfer_keeps (n : StackNo) {s : State} (hs : P s) : P (s.failTransfer n) := by
  unfold State.failTransfer
  split
  · exact h.same (by rfl) hs
  · exact h.same (by rfl) (h.same (view_quarantineTransfer _ n) (read_keeps h _ hs))

theorem takeFault_keeps {s : State} (hs : P s) : P s.takeFault := by
  unfold State.takeFault
  split
  · exact failTransfer_keeps h _ (h.same (by rfl) hs)
  · exact h.same (by rfl) hs

theorem takeTimeout_keeps {s : State} (hs : P s) : P s.takeTimeout := by
  unfold State.takeTimeout
  split
  · exact failTransfer_keeps h _ (h.same (by rfl) hs)
  · exact hs

omit h in
theorem view_freeStack (s : State) (n : StackNo) : view (s.freeStack n) = view s := rfl

omit h in
theorem view_dropHead (s : State) : view s.dropHead = view s := rfl

omit h in
theorem view_freeDelivered (s : State) (n : StackNo) : view (s.freeDelivered n) = view s := by
  unfold State.freeDelivered
  split <;> rfl

theorem takeTaken_keeps {s : State} (hs : P s) : P s.takeTaken := by
  unfold State.takeTaken
  split
  · exact h.same (by rfl) hs
  · exact grant_keeps h (h.same (by rfl) hs)
  · split
    · exact h.same (by rfl) hs
    · exact grant_keeps h (h.same (view_freeDelivered _ _) (h.same (by rfl) (read_keeps h _ hs)))

/-! ### Requests -/

omit h in
/-- A request keeps what its rule keeps, since the port is not in view. -/
theorem request_keeps (h : Stable P) (form : Bool) (act : State → State × Status × List Byte)
    (ha : ∀ s, P s → P (act s).1) {s : State} (hs : P s) : P (s.request form act) := by
  unfold State.request
  split
  · exact h.same (by rfl) hs
  · split
    · exact h.same (by rfl) (ha _ (h.same (by rfl) hs))
    · exact h.same (by rfl) hs

omit h in
/-- The same with the transfer of the request's frame before it: the bytes on SDO are not in view. -/
theorem framed_keeps (h : Stable P) (len : Nat) (form : Bool) (act : State → State × Status × List Byte)
    (ha : ∀ s, P s → P (act s).1) {s : State} (hs : P s) : P ((s.framed len).request form act) :=
  request_keeps h form act ha (h.same (by rfl) hs)

theorem rowReject_keeps (tag : Byte) (lanes : BitVec 16) {s : State} (hs : P s) : P (rowRejectRule tag lanes s).1 := by
  unfold rowRejectRule
  split
  · exact hs
  · split
    · split
      · exact hs
      · exact h.same (by rfl) hs
    · exact hs
    · exact hs

omit h in
theorem rowRead_keeps (tag part : Byte) {s : State} (hs : P s) : P (rowReadRule tag part s).1 := by
  unfold rowReadRule
  split
  · split <;> exact hs
  · exact hs

theorem stackRetire_keeps (stack : Byte) {s : State} (hs : P s) : P (stackRetireRule stack s).1 := by
  unfold stackRetireRule
  split
  · exact hs
  · split
    · unfold retireDelivered
      dsimp only
      split
      · split
        · exact grant_keeps h (h.same (view_freeStack _ _) (h.same (view_dropHead _) (read_keeps h _ hs)))
        · exact read_keeps h _ hs
      · exact hs
    · unfold retireQuarantined
      dsimp only
      split
      · exact hs
      · exact grant_keeps h (h.same (view_freeStack _ _) (read_keeps h _ hs))
    · exact hs

theorem retireEntries_keeps (es : List (Option StackNo)) (acc : State × Nat × Nat) (hs : P acc.1) :
    P (es.foldl retireEntry acc).1 := by
  induction es generalizing acc with
  | nil => exact hs
  | cons e es ih =>
    refine ih _ ?_
    unfold retireEntry
    dsimp only
    split
    · exact hs
    · split
      · exact h.same (view_freeStack _ _) (read_keeps h _ hs)
      · exact read_keeps h _ hs

theorem stackRetireAll_keeps {s : State} (hs : P s) : P (stackRetireAllRule s).1 := by
  unfold stackRetireAllRule
  exact grant_keeps h (h.same (by rfl) (retireEntries_keeps h s.queue.entries (s, 0, 0) hs))

theorem stackList_keeps (sel start : Byte) {s : State} (hs : P s) : P (stackListRule sel start s).1 := by
  unfold stackListRule
  split
  · exact hs
  · split
    · exact hs
    · exact readAll_keeps (readRecord_keeps h) _ hs

theorem shuttleClear_keeps {s : State} (hs : P s) : P (shuttleClearRule s).1 := by
  unfold shuttleClearRule
  split
  · exact grant_keeps h (h.same (by rfl) hs)
  · exact hs

theorem modeRun_keeps {s : State} (hs : P s) : P (modeRunRule s).1 := by
  unfold modeRunRule
  split
  · exact hs
  · show P s.modeRun
    unfold State.modeRun
    split
    · exact h.seek (h.settle 0 (by omega) hs)
    · exact h.seek (h.settle 0 (by omega) hs)
    · exact hs
    · exact h.same (by rfl) hs

theorem modePark_keeps {s : State} (hs : P s) : P (modeParkRule s).1 := by
  show P s.modePark
  unfold State.modePark
  split
  · exact h.same (by rfl) hs
  · exact hs
  · exact enterDraining_keeps h hs
  · exact enterDraining_keeps h hs

theorem counterWrite_keeps (p : CounterPayload) {s : State} (hs : P s) : P (counterWriteRule p s).1 := by
  unfold counterWriteRule
  split
  · exact h.same (by rfl) hs
  · exact hs

theorem counterRead_keeps (c : Byte) {s : State} (hs : P s) : P (counterReadRule c s).1 := by
  unfold counterReadRule
  split
  · exact hs
  · exact read_keeps h _ hs

theorem applyGeometry_keeps {s : State} (hs : P s) : P s.applyGeometry := by
  have ht := readAll_keeps (readRecord_keeps h) ((List.finRange 12).map .lane)
    (h.keep (s.verdict.empty .hunt) (Nat.zero_le 6) hs)
  unfold State.applyGeometry
  dsimp only
  generalize readAll readRecord ((List.finRange 12).map .lane) (s.setVerdict (s.verdict.empty .hunt)) = t at ht ⊢
  exact grant_keeps h (h.same (view_freshCredits t) ht)

theorem geometryWrite_keeps (p : GeometryPayload) {s : State} (hs : P s) : P (geometryWriteRule p s).1 := by
  have hg : ∀ g, P ((readRecord .geometry s).loadGeometry g).applyGeometry := fun g =>
    applyGeometry_keeps h (h.same (view_loadGeometry _ g) (read_keeps h .geometry hs))
  unfold geometryWriteRule
  split
  · exact hs
  · split
    · exact hs
    · split
      · split
        · exact hs
        · unfold reply
          dsimp only
          exact hg _
      · exact hs

theorem geometryRead_keeps {s : State} (hs : P s) : P (geometryReadRule s).1 := by
  unfold geometryReadRule
  dsimp only
  split
  · exact read_keeps h _ hs
  · exact read_keeps h _ hs

theorem offsetNudge_keeps (d : BitVec 16) {s : State} (hs : P s) : P (offsetNudgeRule d s).1 := by
  unfold offsetNudgeRule
  dsimp only
  split
  · exact read_keeps h _ hs
  · unfold reply
    dsimp only
    split
    · exact read_keeps h _ hs
    · exact h.same (by rfl) (read_keeps h _ hs)

theorem readOpenStacks_keeps {s : State} (hs : P s) : P s.readOpenStacks :=
  readAll_keeps (readRecord_keeps h) _ hs

theorem readAndRetest_keeps (l : Lane) {s : State} (hs : P s) : P (s.readAndRetest l) :=
  h.same (by rfl) (readForOpening_keeps h l hs)

theorem retestNaming_keeps (j : JobSlot) {s : State} (hs : P s) : P (s.retestNaming j) := by
  unfold State.retestNaming
  refine foldl_keeps _ (fun s l hs => ?_) _ hs
  split
  · exact readAndRetest_keeps h l hs
  · exact hs

theorem jobWriteActive_keeps (p : JobPayload) (m : SerialMode) (j : JobSlot) {s : State} (hs : P s) :
    P (jobWriteActive p m j s).1 := by
  have ht := readOpenStacks_keeps h hs
  unfold jobWriteActive
  dsimp only
  split
  · exact hs
  · split
    · exact ht
    · split
      · exact ht
      · exact h.same (view_clearFlips _ _) (h.same (view_setJob _ _ _) ht)

theorem jobWriteNew_keeps (p : JobPayload) (m : SerialMode) (j : JobSlot) {s : State} (hs : P s) :
    P (jobWriteNew p m j s).1 := by
  have ht := readAll_keeps (readRecord_keeps h) (((List.finRange 16).filter (fun k => k != j)).map .job) hs
  have hu := readOpenStacks_keeps h ht
  have hv : ∀ (w : State) (r : JobRecord), P w → P (((w.setJob j r).clearFlips (.job j)).retestNaming j) := fun w r hw =>
    retestNaming_keeps h j (h.same (view_clearFlips _ _) (h.same (view_setJob _ _ _) hw))
  unfold jobWriteNew
  dsimp only
  split
  · exact ht
  · split
    · exact ht
    · split
      · exact hu
      · unfold reply
        dsimp only
        exact hv _ _ hu

theorem jobWrite_keeps (p : JobPayload) {s : State} (hs : P s) : P (jobWriteRule p s).1 := by
  unfold jobWriteRule
  split
  · next j m _ _ =>
    have ht := read_keeps h (.job j) hs
    split
    · dsimp only
      split
      · exact ht
      · exact jobWriteActive_keeps h p m j ht
      · exact jobWriteNew_keeps h p m j ht
    · exact hs
  · exact hs

theorem jobRead_keeps (b : Byte) {s : State} (hs : P s) : P (jobReadRule b s).1 := by
  unfold jobReadRule
  split
  · exact hs
  · dsimp only
    split
    · exact read_keeps h _ hs
    · exact readOpenStacks_keeps h (read_keeps h _ hs)

theorem jobEnd_keeps (b : Byte) {s : State} (hs : P s) : P (jobEndRule b s).1 := by
  unfold jobEndRule
  split
  · exact hs
  · dsimp only
    split
    · unfold reply State.endJob
      dsimp only
      split
      · exact h.same (by rfl) (read_keeps h _ hs)
      · exact h.same (view_slotGone _ _) (h.same (by rfl) (read_keeps h _ hs))
    · exact read_keeps h _ hs

theorem laneWrite_keeps (p : LanePayload) {s : State} (hs : P s) : P (laneWriteRule p s).1 := by
  unfold laneWriteRule
  split
  · split
    · show P (State.sealStopped _ _).1
      unfold State.sealStopped
      have ht : P (s.readForLaneWrite p ‹Lane›) := by
        unfold State.readForLaneWrite
        split
        · exact hs
        · exact read_keeps h _ hs
      have hw : P ((s.readForLaneWrite p ‹Lane›).writeLane p ‹Lane› ‹Option JobSlot›) :=
        readAndRetest_keeps h _ (h.same (by rfl) ht)
      split
      · exact hw
      · exact sealLane_keeps h _ _ hw
    · exact hs
  · exact hs

theorem laneRead_keeps (b : Byte) {s : State} (hs : P s) : P (laneReadRule b s).1 := by
  unfold laneReadRule
  split
  · exact hs
  · exact readForOpening_keeps h _ hs

theorem laneClear_keeps (b c : Byte) {s : State} (hs : P s) : P (laneClearRule b c s).1 := by
  unfold laneClearRule
  split
  · exact hs
  · split
    · unfold reply
      dsimp only
      split
      · exact sealLane_keeps h _ _ (h.same (by rfl) (readForOpening_keeps h _ hs))
      · exact h.same (by rfl) (readForOpening_keeps h _ hs)
    · exact hs

theorem stackRead_keeps (b c : Byte) {s : State} (hs : P s) : P (stackReadRule b c s).1 := by
  unfold stackReadRule
  split
  · exact hs
  · split
    · exact read_keeps h _ hs
    · exact hs

theorem stackClose_keeps (b : Byte) {s : State} (hs : P s) : P (stackCloseRule b s).1 := by
  unfold stackCloseRule
  split
  · exact hs
  · next l _ =>
    have hc := sealLane_keeps h l .close hs
    split
    · exact hs
    · split
      · next he => rw [he] at hc; exact hc
      · next he => rw [he] at hc; exact hc

theorem stackTarget_keeps (b : Byte) (v : BitVec 16) {s : State} (hs : P s) : P (stackTargetRule b v s).1 := by
  unfold stackTargetRule
  split
  · exact hs
  · split
    · dsimp only
      split
      · split
        · unfold reply State.setTarget
          dsimp only
          split
          · exact seal_keeps h _ _ (h.same (by rfl) (read_keeps h _ hs))
          · exact h.same (by rfl) (read_keeps h _ hs)
        · exact read_keeps h _ hs
      · exact read_keeps h _ hs
    · exact hs

/-! ### Power and reset -/

theorem assertPfail_keeps {s : State} (hs : P s) : P s.assertPfail := by
  unfold State.assertPfail
  split
  · exact hs
  · exact h.same (by rfl) hs

theorem writeSavedTrim_keeps {s : State} (hs : P s) : P s.writeSavedTrim := by
  unfold State.writeSavedTrim
  dsimp only
  split
  · exact hs
  · have hr := read_keeps h .geometry
      (s := { s with memory := { s.memory with trimToSave := none } }) (h.same (by rfl) hs)
    split
    · exact hr
    · exact h.same (by rfl) hr

omit h in
theorem view_raiseIfDamaged (s : State) (refs : List RecordRef) : view (s.raiseIfDamaged refs) = view s := by
  unfold State.raiseIfDamaged
  split <;> rfl

omit h in
theorem view_restoreGeometry (s : State) (cold : Bool) : view (s.restoreGeometry cold) = view s := by
  unfold State.restoreGeometry State.raiseIfDamaged
  split <;> rfl

omit h in
theorem view_restoreJob (s : State) (j : JobSlot) : view (s.restoreJob j) = view s := by
  unfold State.restoreJob
  split <;> rfl

omit h in
theorem view_restoreStack (s : State) (n : StackNo) : view (s.restoreStack n) = view s := by
  unfold State.restoreStack
  split <;> rfl

omit h in
theorem view_restoreSeal (s : State) (l : Lane) : view (s.restoreSeal l) = view s := by
  unfold State.restoreSeal
  split
  · split <;> rfl
  · rfl

omit h in
theorem view_restoreComplete (s : State) (l : Lane) (n : StackNo) : view (s.restoreComplete l n) = view s := by
  unfold State.restoreComplete
  split
  · exact view_moveComplete s n
  · rfl

theorem restorePush_keeps (l : Lane) {s : State} (hs : P s) : P (s.restorePush l) := by
  unfold State.restorePush
  split
  · exact hs
  · exact pushHeldWith_keeps h (fun _ _ hs => hs) l hs

theorem laneSteps_keep (l : Lane) : ∀ f ∈ laneSteps l, ∀ s, P s → P (f s) := by
  intro f hf s hs
  simp only [laneSteps, List.mem_cons, List.mem_append, List.mem_map, List.not_mem_nil, or_false] at hf
  rcases hf with rfl | ⟨n, _, rfl⟩ | rfl
  · exact h.same (view_restoreSeal s l) hs
  · exact h.same (view_restoreComplete s l n) hs
  · exact restorePush_keeps h l hs

/-- R187: every step of a reset keeps a stable predicate. -/
theorem resetSteps_keep (cold : Bool) : ∀ f ∈ resetSteps cold, ∀ s, P s → P (f s) := by
  intro f hf s hs
  simp only [resetSteps, scanSteps, tableSteps, stackSteps, lastSteps, List.mem_cons, List.mem_append, List.mem_map,
    List.mem_flatMap, List.not_mem_nil, or_false] at hf
  rcases hf with ⟨r, _, rfl⟩ | rfl | ((⟨j, _, rfl⟩ | rfl) | ⟨n, _, rfl⟩ | ⟨l, _, hf⟩) | rfl | rfl | rfl
  · exact scanRecord_keeps h r hs
  · exact h.same (view_restoreGeometry s cold) hs
  · exact h.same (view_restoreJob s j) hs
  · exact h.same (view_raiseIfDamaged _ _) (h.same (by rfl) hs)
  · exact h.same (view_restoreStack s n) hs
  · exact laneSteps_keep h l f hf s hs
  · exact h.same (view_rebuildQueue _) (h.same (view_resetShuttle s cold) hs)
  · exact grant_keeps h hs
  · exact h.same (view_raiseIfDamaged _ _) (h.same (view_countersLoaded s _ _) hs)

theorem runSteps_keep (p : Option Nat) (fs : List ResetStep) (hf : ∀ f ∈ fs, ∀ s, P s → P (f s)) (k : Nat) {s : State}
    (hs : P s) : P (runSteps p k fs s) := by
  induction fs generalizing k s with
  | nil => exact h.same (view_pfail s _) hs
  | cons f fs ih =>
    exact ih (fun g hg => hf g (List.mem_cons_of_mem f hg)) _
      (hf f List.mem_cons_self _ (h.same (view_pfail s _) hs))

theorem resetPart_keeps (cold : Bool) (p : Option Nat) {s : State} (hs : P s) : P (s.resetPart cold p) :=
  runSteps_keep h p _ (resetSteps_keep h cold) 0 (h.reset cold (h.same (view_beforeScan s cold) hs))

omit h in
theorem view_edgesAtReset (s : State) (c : ResetCourse) : view (s.edgesAtReset c) = view s := by
  unfold State.edgesAtReset
  refine (foldl_view _ (fun t n => ?_) _ _).trans ?_
  · unfold State.begunTransfer
    split <;> rfl
  · unfold State.cutTransfer
    rw [putTrim_frame]
    split <;> rfl

theorem resetWith_keeps (cold : Bool) (c : ResetCourse) {s : State} (hs : P s) : P (s.resetWith cold c) :=
  resetPart_keeps h cold _ (h.same (view_edgesAtReset s c) hs)

theorem resetEmpty_keeps (cold : Bool) (c : ResetCourse) {s : State} (hs : P s) : P (s.resetEmpty cold c) :=
  h.same (view_port _ _) (resetWith_keeps h cold c hs)

theorem negatePfail_keeps (c : ResetCourse) {s : State} (hs : P s) : P (s.negatePfail c) := by
  unfold State.negatePfail
  split
  · exact resetEmpty_keeps h _ _ (writeSavedTrim_keeps h hs)
  · exact hs

/-! ### The request port -/

omit h in
theorem view_statusClear (s : State) (m : BitVec 16) (q : Bool) : view (s.statusClear m q) = view s := rfl

theorem takeStatus_keeps (m : BitVec 16) (q page : Byte) {s : State} (hs : P s) : P (s.takeStatus m q page) := by
  unfold State.takeStatus
  dsimp only
  split
  · exact h.same (by rfl) hs
  · exact h.same (by rfl) hs

theorem resetRule_keeps (c : ResetCourse) {s : State} (hs : P s) : P (resetRule c s).1 := by
  have hr := resetWith_keeps h false c hs
  unfold resetRule reply
  dsimp only
  exact hr

theorem readTransfer_keeps (n : Nat) {s : State} (hs : P s) : P (s.readTransfer n) := by
  unfold State.readTransfer
  split
  · exact hs
  · exact h.same (by rfl) hs

theorem answer_keeps (st : Status) (p : List Byte) {s : State} (hs : P s) : P (s.answer st p) := h.same (by rfl) hs

/-- A meaning that answers a next state that meets `P`. -/
def Meets (P : State → Prop) (r : Result) : Prop := ∃ t, r = .next t ∧ P t

omit h in
theorem meets_next {t : State} (ht : P t) : Meets P (.next t) := ⟨t, rfl, ht⟩

theorem refuseArg_keeps (len : Nat) {s : State} (hs : P s) : P (s.refuseArg len) :=
  framed_keeps h _ _ _ (fun _ ht => ht) hs

theorem takeMode_keeps (b : Byte) {s : State} (hs : P s) : Meets P (takeMode b s) := by
  unfold takeMode
  split
  · exact meets_next (framed_keeps h _ _ _ (fun _ ht => modeRun_keeps h ht) hs)
  · split
    · exact meets_next (framed_keeps h _ _ _ (fun _ ht => modePark_keeps h ht) hs)
    · exact meets_next (refuseArg_keeps h _ hs)

theorem takeRetire_keeps (b o : Byte) {s : State} (hs : P s) : Meets P (takeRetire b o s) := by
  unfold takeRetire
  split
  · exact meets_next (framed_keeps h _ _ _ (fun _ ht => stackRetire_keeps h _ ht) hs)
  · split
    · exact meets_next (framed_keeps h _ _ _ (fun _ ht => stackRetireAll_keeps h ht) hs)
    · exact meets_next (refuseArg_keeps h _ hs)

theorem takeRequest_keeps (code : Nat) (p : List Byte) {s : State} (hs : P s) : Meets P (takeRequest code p s) := by
  unfold takeRequest
  split
  · exact meets_next (takeStatus_keeps h _ _ _ (h.same (by rfl) hs))
  · exact meets_next (framed_keeps h _ _ _ (fun _ ht => h.same (by rfl) ht) hs)
  · exact takeMode_keeps h _ hs
  · exact meets_next (framed_keeps h _ _ _ (fun _ ht => resetRule_keeps h _ ht) hs)
  · exact meets_next (framed_keeps h _ _ _ (fun _ ht => geometryWrite_keeps h _ ht) hs)
  · exact meets_next (framed_keeps h _ _ _ (fun _ ht => geometryRead_keeps h ht) hs)
  · exact meets_next (framed_keeps h _ _ _ (fun _ ht => offsetNudge_keeps h _ ht) hs)
  · exact meets_next (framed_keeps h _ _ _ (fun _ ht => jobWrite_keeps h _ ht) hs)
  · exact meets_next (framed_keeps h _ _ _ (fun _ ht => jobRead_keeps h _ ht) hs)
  · exact meets_next (framed_keeps h _ _ _ (fun _ ht => jobEnd_keeps h _ ht) hs)
  · exact meets_next (framed_keeps h _ _ _ (fun _ ht => laneWrite_keeps h _ ht) hs)
  · exact meets_next (framed_keeps h _ _ _ (fun _ ht => laneRead_keeps h _ ht) hs)
  · exact meets_next (framed_keeps h _ _ _ (fun _ ht => laneClear_keeps h _ _ ht) hs)
  · exact meets_next (framed_keeps h _ _ _ (fun _ ht => stackRead_keeps h _ _ ht) hs)
  · exact meets_next (framed_keeps h _ _ _ (fun _ ht => stackList_keeps h _ _ ht) hs)
  · exact meets_next (framed_keeps h _ _ _ (fun _ ht => stackClose_keeps h _ ht) hs)
  · exact meets_next (framed_keeps h _ _ _ (fun _ ht => stackTarget_keeps h _ _ ht) hs)
  · exact takeRetire_keeps h _ _ hs
  · exact meets_next (framed_keeps h _ _ _ (fun _ ht => rowRead_keeps _ _ ht) hs)
  · exact meets_next (framed_keeps h _ _ _ (fun _ ht => rowReject_keeps h _ _ ht) hs)
  · exact meets_next (framed_keeps h _ _ _ (fun _ ht => counterWrite_keeps h _ ht) hs)
  · exact meets_next (framed_keeps h _ _ _ (fun _ ht => counterRead_keeps h _ ht) hs)
  · exact meets_next (framed_keeps h _ _ _ (fun _ ht => shuttleClear_keeps h ht) hs)

omit h in
theorem view_unblockLanes (s : State) : view s.unblockLanes = view s := rfl

theorem heldPush_keeps (l : Lane) {s : State} (hs : P s) : Meets P (execHeldPush l s) := by
  unfold execHeldPush
  split
  · exact meets_next hs
  · exact meets_next (grant_keeps h (pushHeld_keeps h l hs))

theorem takeTransfer_keeps (bytes : List Byte) {s : State} (hs : P s) : Meets P (takeTransfer bytes s) := by
  unfold takeTransfer judgeFrame
  split
  · exact meets_next hs
  · split
    · split
      · exact meets_next (answer_keeps h _ _ (h.same (by rfl) hs))
      · split
        · exact meets_next (answer_keeps h _ _ (h.same (by rfl) hs))
        · split
          · exact takeRequest_keeps h _ _ hs
          · split
            · exact meets_next (answer_keeps h _ _ (h.same (by rfl) hs))
            · exact meets_next (refuseArg_keeps h _ hs)
    · exact meets_next (readTransfer_keeps h _ hs)

/-- Every command keeps a stable predicate, and answers a next state. -/
theorem exec_keeps (c : Instr) {s : State} (hs : P s) : Meets P (exec c s) := by
  cases c with
  | encoderTransition e => exact meets_next (h.same (view_countEncoder e _) (settleDue_keeps h hs))
  | reverseEvent => exact meets_next (takeReverse_keeps h hs)
  | mark => exact meets_next (takeMark_keeps h hs)
  | syntheticMark => exact meets_next (takeSynthetic_keeps h hs)
  | lossLimit => exact meets_next (lossTest_keeps h hs)
  | riseToTracking => exact meets_next (riseTest_keeps h hs)
  | splice => exact meets_next (takeSplice_keeps h hs)
  | spliceZoneExpiry => exact meets_next (takeZoneExpiry_keeps h hs)
  | spacingReferenceExpiry => exact meets_next (takeSpacingExpiry_keeps h hs)
  | dieIndex => exact meets_next (takeDieIndex_keeps h hs)
  | dieWindowEnd => exact meets_next (takeDieWindowEnd_keeps h hs)
  | trimMessageSent => exact meets_next (h.sent hs)
  | verdictCharacter c => exact meets_next (takeCharacter_keeps h c hs)
  | idleGap => exact meets_next (takeIdleGap_keeps h hs)
  | gatePoint => exact meets_next (takeGatePoint_keeps h hs)
  | windowPublish c => exact meets_next (h.same (view_windowPublish s c) hs)
  | thresholdReached c => exact meets_next (h.same (view_thresholdReached s c) hs)
  | pocket l => exact meets_next (takePocket_keeps h l hs)
  | landingWindowEnd => exact meets_next (takeLandingEnd_keeps h hs)
  | laneJammed l => exact meets_next (h.same (view_jamTest s l) hs)
  | stackComplete n => exact meets_next (takeComplete_keeps h n hs)
  | heldPush l => exact heldPush_keeps h l hs
  | laneUnblock => exact meets_next (h.same (view_unblockLanes s) hs)
  | rowRetire => exact meets_next (retireRows_keeps h hs)
  | slotEmpty j => exact meets_next (emptySlot_keeps h j hs)
  | drainComplete => exact meets_next (drainTest_keeps h hs)
  | shuttleGrant => exact meets_next (grant_keeps h hs)
  | done => exact meets_next (takeDone_keeps h hs)
  | fault => exact meets_next (takeFault_keeps h hs)
  | transferTimeout => exact meets_next (takeTimeout_keeps h hs)
  | taken => exact meets_next (takeTaken_keeps h hs)
  | pfailAssert => exact meets_next (assertPfail_keeps h hs)
  | savedTrimWrite => exact meets_next (writeSavedTrim_keeps h hs)
  | pfailNegate k => exact meets_next (negatePfail_keeps h k hs)
  | coldReset k => exact meets_next (resetEmpty_keeps h true k hs)
  | status m q page => exact meets_next (takeStatus_keeps h m q page (h.same (by rfl) hs))
  | attentionMask e => exact meets_next (framed_keeps h _ _ _ (fun _ ht => h.same (by rfl) ht) hs)
  | modeRun => exact meets_next (framed_keeps h _ _ _ (fun _ ht => modeRun_keeps h ht) hs)
  | modePark => exact meets_next (framed_keeps h _ _ _ (fun _ ht => modePark_keeps h ht) hs)
  | reset k => exact meets_next (framed_keeps h _ _ _ (fun _ ht => resetRule_keeps h k ht) hs)
  | geometryWrite p => exact meets_next (framed_keeps h _ _ _ (fun _ ht => geometryWrite_keeps h p ht) hs)
  | geometryRead => exact meets_next (framed_keeps h _ _ _ (fun _ ht => geometryRead_keeps h ht) hs)
  | offsetNudge d => exact meets_next (framed_keeps h _ _ _ (fun _ ht => offsetNudge_keeps h d ht) hs)
  | jobWrite p => exact meets_next (framed_keeps h _ _ _ (fun _ ht => jobWrite_keeps h p ht) hs)
  | jobRead b => exact meets_next (framed_keeps h _ _ _ (fun _ ht => jobRead_keeps h b ht) hs)
  | jobEnd b => exact meets_next (framed_keeps h _ _ _ (fun _ ht => jobEnd_keeps h b ht) hs)
  | laneWrite p => exact meets_next (framed_keeps h _ _ _ (fun _ ht => laneWrite_keeps h p ht) hs)
  | laneRead b => exact meets_next (framed_keeps h _ _ _ (fun _ ht => laneRead_keeps h b ht) hs)
  | laneClear b o => exact meets_next (framed_keeps h _ _ _ (fun _ ht => laneClear_keeps h b o ht) hs)
  | stackRead b o => exact meets_next (framed_keeps h _ _ _ (fun _ ht => stackRead_keeps h b o ht) hs)
  | stackList b o => exact meets_next (framed_keeps h _ _ _ (fun _ ht => stackList_keeps h b o ht) hs)
  | stackClose b => exact meets_next (framed_keeps h _ _ _ (fun _ ht => stackClose_keeps h b ht) hs)
  | stackTarget b v => exact meets_next (framed_keeps h _ _ _ (fun _ ht => stackTarget_keeps h b v ht) hs)
  | stackRetire b => exact meets_next (framed_keeps h _ _ _ (fun _ ht => stackRetire_keeps h b ht) hs)
  | stackRetireAll b => exact meets_next (framed_keeps h _ _ _ (fun _ ht => stackRetireAll_keeps h ht) hs)
  | rowRead b o => exact meets_next (framed_keeps h _ _ _ (fun _ ht => rowRead_keeps b o ht) hs)
  | rowReject b v => exact meets_next (framed_keeps h _ _ _ (fun _ ht => rowReject_keeps h b v ht) hs)
  | counterWrite p => exact meets_next (framed_keeps h _ _ _ (fun _ ht => counterWrite_keeps h p ht) hs)
  | counterRead b => exact meets_next (framed_keeps h _ _ _ (fun _ ht => counterRead_keeps h b ht) hs)
  | shuttleClear => exact meets_next (framed_keeps h _ _ _ (fun _ ht => shuttleClear_keeps h ht) hs)
  | refusedFrame bytes => exact takeTransfer_keeps h bytes hs
  | responseRead n => exact meets_next (readTransfer_keeps h n hs)

/-- Every step keeps a stable predicate that does not look at the queue of commands. -/
theorem step_keeps (hq : ∀ (t : State) (q : List Instr), P t → P { t with pending := q }) {s : State} (hs : P s) :
    Meets P (step s) := by
  unfold step
  split
  · exact meets_next (writeSavedTrim_keeps h (settleDue_keeps h hs))
  · exact exec_keeps h _ (hq s _ hs)

end

end Sys2Proof.Laws
end

