-- ==== Sys2Proof/WellFormed.lean ====
section
/-! DEFINITION. What makes a command well formed: the checks that its operand types do not make. -/

namespace Sys2Proof

/-- R193: the name field of JOB WRITE is 16 bytes. -/
def JobPayload.nameWf (p : JobPayload) : Bool := p.name.length == 16

/-- R186, R187: PFAIL can be asserted before any of the 974 steps of the reset sequence, or after the last. -/
def pfailFromWf : Option Nat → Bool
  | none => true
  | some k => k ≤ 974

/-- R70, R186: what can happen at the edges of a reset; a trim message has six characters. -/
def ResetCourse.wf (c : ResetCourse) : Bool := pfailFromWf c.pfailFrom && c.trimSent ≤ 6

/-- R71, R77: the first character of a message is begun with the message, and a warm reset completes it. -/
def ResetCourse.wfOfWarm (c : ResetCourse) : Bool := c.wf && 1 ≤ c.trimSent

/-- R190, R191: RESET is taken at the end of its own transfer, so it finds none under way. -/
def ResetCourse.wfOfRequest (c : ResetCourse) : Bool := c.wfOfWarm && c.cut.isNone

/-- R189: a transfer is a request transfer when its first byte is 0x5A. -/
def requestTransferWf : List Byte → Bool
  | [] => false
  | b :: _ => b == 0x5A#8

/-- The well-formed commands. -/
def WellFormed : Instr → Bool
  | .jobWrite p => p.nameWf
  | .pfailNegate c => c.wfOfWarm
  | .coldReset c => c.wf
  | .reset c => c.wfOfRequest
  | .refusedFrame bytes => requestTransferWf bytes
  | _ => true

end Sys2Proof
end

