-- ==== Sys2Proof/Tests/Slice0.lean ====
section
/-! SUPPORT. The author's own tests: the checks of WellFormed on ill-formed commands, the manual's worked cases in one step
each, and for each statement with hypotheses states and operands that meet all of them together, clause by clause. -/

set_option Elab.async false

namespace Sys2Proof.Tests

open Sys2Proof Sys2Proof.Machine

/-! ## The states the tests use -/

/-- The web at position `p`, to which the last count has just advanced high-water. -/
def webAt (p : Nat) (s : State) : State :=
  { s with position := { s.position with
      position := BitVec.ofNat 32 p, highWater := BitVec.ofNat 32 p, advanced := true } }

/-- The part after reset, in line mode `m`. -/
def inMode (m : LineMode) : State :=
  { State.reset with modes := { mode := m, target := if m = .seek ∨ m = .tracking then .run else .park } }

/-- A job of target 2, its serials counting up by 1. -/
def someJob : JobRecord :=
  { JobRecord.zero .active with jobId := 7, target := 2, serialMode := .up, step := 1, gapLimit := 2, nextOrdinal := 65535 }

/-- An entry of a lane of that job, carrying serial 105. -/
def someEntry : LaneEntry :=
  { snapshot := some 0, camera := .good, manual := false, disposition := .undecided, landing := .none, serial := some 105 }

/-- The same, gated to stack 0 and on its way down. -/
def fallingEntry : LaneEntry := { someEntry with disposition := .stack 0, landing := .awaiting }

/-- Row 0, with mark 0 and E 120,000; lane 1 has entry `e`. -/
def someRow (ph : Phase) (e : LaneEntry) : RowRecord :=
  { number := 0, origin := .mark, mark := 0, expected := 120000, dieIndex := none, rawError := none
    flags := ⟨false, false, false, false, false, false, false, false⟩, phase := ph
    lanes := vset (Vector.replicate 12 LaneEntry.blank) 0 e }

/-- A record of lane 1 and that job, with one label committed, serial 104. -/
def someStack (st : StackState) : StackRecord :=
  { StackRecord.zero st with
      lane := 1, jobId := 7, target := 2, committed := 1
      serial := some { first := some 104, lastCommitted := some 104, lastLanded := none, foreseen := 0, gaps := [] } }

/-- The line in mode `m` at `p` with one open row; lane 1 is ACTIVE on job slot 0, and stack 0 is in state `st`. -/
def lineWith (m : LineMode) (ph : Phase) (e : LaneEntry) (st : StackState) (p : Nat) : State :=
  webAt p
    { inMode m with
        ring := { slots := vset (Vector.replicate 128 none) 0 (some (someRow ph e)), next := 1, openCount := 1 }
        lanes := vset (Vector.replicate 12 LaneUnit.reset) 0
          { LaneUnit.reset with run := .active, rowOrigin := .row 0, skipCause := none }
        memory := { (inMode m).memory with
          jobRecs := vset State.reset.memory.jobRecs 0 someJob
          laneRecs := vset State.reset.memory.laneRecs 0
            { LaneRecord.blank with enabled := true, slot := some 0, origin := 100 }
          stackRecs := vset State.reset.memory.stackRecs 0 (someStack st) } }

/-- The shuttle moving with stack 0 of lane 1. -/
def movingWith (st : StackState) : State :=
  { lineWith .tracking .opened someEntry st 0 with
      shuttle := { State.reset.shuttle with state := .moving 0 0 2000 } }

/-- The delivery queue holding stack 0. -/
def delivered : State :=
  { lineWith .tracking .opened someEntry .delivered 0 with queue := { entries := [some 0], nextSeq := 1 } }

/-- The next state of a command. -/
def after (c : Instr) (s : State) : State :=
  match exec c s with
  | .next t => t
  | _ => s

/-- A hypothesis on the one open row. -/
theorem firstOpen_of_only {s : State} {i : RingSlot} {r : RowRecord} {p : RowRecord → Prop} (h : s.openSlots = [i])
    (hr : s.rowAt i = some r) (hp : p r) : s.firstOpen p i r :=
  ⟨[], [], h, hr, hp, by simp⟩

theorem noOpen_of_only {s : State} {i : RingSlot} {r : RowRecord} {p : RowRecord → Prop} (h : s.openSlots = [i])
    (hr : s.rowAt i = some r) (hp : ¬p r) : s.noOpen p := by
  intro j hj q hq
  rw [h, List.mem_singleton] at hj
  rw [hj, hr] at hq
  exact Option.some.inj hq ▸ hp

/-! ## Well-formedness -/

/-- A payload of JOB WRITE that every check passes. -/
def jobPayload (name : List Byte) : JobPayload :=
  { slot := 0, jobId := 7, name := name, target := 2, serialMode := 1, step := 1, gapLimit := 2, sampleEnable := 0
    sampleValue := 0, sampleMask := 0, firstOrdinal := 0 }

theorem test_wellFormed_name : WellFormed (.jobWrite (jobPayload (List.replicate 16 0))) = true ∧
    WellFormed (.jobWrite (jobPayload (List.replicate 15 0))) = false := by decide

/-- A reset in which PFAIL is asserted before step `k`, with a transfer under way at its start, in the first character of a
trim message. -/
def cutCourse (k : Nat) : ResetCourse := { pfailFrom := some k, trimSent := 1, cut := some ⟨2, 1, 3⟩, begun := [4] }

theorem test_wellFormed_pfailFrom : WellFormed (.coldReset (cutCourse 974)) = true ∧
    WellFormed (.coldReset (cutCourse 975)) = false ∧ WellFormed (.pfailNegate (cutCourse 975)) = false ∧
    WellFormed (.reset { ResetCourse.quiet with pfailFrom := some 975 }) = false := by decide

theorem test_wellFormed_trimSent : WellFormed (.coldReset { cutCourse 0 with trimSent := 0 }) = true ∧
    WellFormed (.coldReset { cutCourse 0 with trimSent := 7 }) = false ∧
    WellFormed (.pfailNegate { cutCourse 0 with trimSent := 0 }) = false ∧
    WellFormed (.reset { ResetCourse.quiet with trimSent := 0 }) = false := by decide

theorem test_wellFormed_resetTransfer : WellFormed (.reset ResetCourse.quiet) = true ∧
    WellFormed (.reset (cutCourse 974)) = false := by decide

theorem test_resetSteps_count : (resetSteps true).length = 974 ∧ (resetSteps false).length = 974 := by decide +kernel

theorem test_wellFormed_requestTransfer : WellFormed (.refusedFrame [0x5A]) = true ∧
    WellFormed (.refusedFrame []) = false ∧ WellFormed (.refusedFrame [0x5B]) = false := by decide

/-! ## The manual's worked cases, one step each -/

/-- The state before row 101 of the case of section 4.9, with the row as row 0. -/
def case49 : State :=
  { lineWith .tracking .opened someEntry .opened 120060 with
      register := { RegisterUnit.reset 320 200 with sending := none } }

/-- Section 4.9, row 101: e is +60, F16 becomes 480, c is 15, T becomes 185, and the message carries MISREG. -/
theorem test_dieIndex_section_4_9 :
    (after .dieIndex case49).register.f16 = 480 ∧ (after .dieIndex case49).register.trim = 185 ∧
    ((after .dieIndex case49).rowAt 0).map (fun r => (r.rawError, r.phase, r.flags.misreg, r.flags.trimHeld)) =
      some (some 60, .cut, true, false) ∧
    (after .dieIndex case49).outputs = [] ∧ (after .trimMessageSent (after .dieIndex case49)).outputs.length = 1 := by
  decide +kernel

/-- Section 4.9, rows 102 and 105: the arithmetic of the loop. -/
theorem test_loop_section_4_9 : filterNext 480 (-2) 2 = 352 ∧ correctionOf 352 8 50 = 11 ∧ filterNext 352 10 2 = 304 ∧
    correctionOf 304 8 50 = 10 := by decide

/-- The examples under R112 and R113. -/
theorem test_serials_section_6_3 : serialAt .up 4 99999990 5 = 10 ∧ serialAt .down 2 5 4 = 99999997 ∧
    serialAt .up 1 1000 0 = 1000 ∧ serialDistance .down 3 1 99999998 = some 1 ∧
    serialDistance .down 3 99999977 99999976 = none := by decide

/-- The splice example of section 1.3: the second pulse widens the zone to [3,087,000, 3,092,500). -/
theorem test_splice_section_1_3 :
    (after .splice (webAt 3041000
      { State.reset with
          work := { Settings.default with upstream := 50000, lead := 1000, trail := 1500 }
          position := { PositionUnit.reset with zone := some (3087000, 3089500) } })).position.zone =
      some (3087000, 3092500) := by decide +kernel

/-- Section 5.9: a stack record of a lane before the decision. -/
def stack59 (st : StackState) (lane : Nat) (slot : JobSlot) (id : BitVec 16) (committed target : Nat) : StackRecord :=
  { StackRecord.zero st with lane := lane, slot := slot, jobId := id, committed := committed, target := target }

/-- Section 5.9: a job. -/
def job59 (id : BitVec 16) (target : Nat) : JobRecord := { JobRecord.zero .active with jobId := id, target := target }

/-- Section 5.9: the part as row 820 reaches its gate point. -/
def case59 : State :=
  let good : LaneEntry := { someEntry with serial := none }
  let row := { someRow .cut good with number := 820 }
  let entries := vset (vset (vset (vset row.lanes 1 { good with camera := .print, manual := true })
    2 { good with snapshot := some 2 }) 3 { good with snapshot := some 3 }) 4 good
  { webAt 150000 (inMode .tracking) with
      ring :=
        { slots := vset (Vector.replicate 128 none) 52 (some { row with lanes := entries })
          next := 821
          openCount := 1 }
      lanes := vtab (fun l =>
        if l < 5 then { LaneUnit.reset with run := .active, skipCause := none }
        else { LaneUnit.reset with skipCause := some (.waste .laneOff) })
      memory := { State.reset.memory with
        jobRecs := vset (vset (vset (vset State.reset.memory.jobRecs 0 (job59 3100 500)) 1 (job59 4410 500))
          2 { job59 4502 1000 with nextOrdinal := 15 })
          3 { job59 3777 500 with sampleEnable := true, sampleValue := 52, sampleMask := 63 }
        stackRecs := vtab (fun n =>
          if n = 3 then stack59 .opened 1 0 3100 499 500
          else if n = 8 then stack59 .opened 2 0 3100 1 500
          else if n = 22 then stack59 .opened 3 1 4410 7 500
          else if n = 40 then stack59 .opened 4 3 3777 7 500
          else if n = 11 then stack59 .ready 5 0 3100 500 500
          else if n = 12 then stack59 .held 5 0 3100 500 500
          else if n = 17 ∨ n = 30 ∨ n = 41 then StackRecord.zero .free
          else stack59 (.quarantined .transfer) 12 0 1 1 1) } }

/-- Section 5.9: the dispositions, the gates, the run states, and the stacks 3, 22 and 17 after the decision. -/
theorem test_decision_section_5_9 :
    ((after .gatePoint case59).rowAt 52).map (fun r => (List.finRange 5).map (fun l : Fin 5 =>
      r.lanes[l.val].disposition)) =
        some [.stack 3, .waste .print, .stack 17, .sample, .waste .blocked] ∧
    (after .gatePoint case59).lanes.toList.map (fun u => u.gate) =
      [.stack, .waste, .stack, .sample, .waste] ++ List.replicate 7 .waste ∧
    ((after .gatePoint case59).lanes.toList.take 5).map (fun u => (u.run, u.skipCause)) =
      [(.active, none), (.active, some (.waste .print)), (.active, none), (.active, some .sample),
       (.blocked .slots, some (.waste .blocked))] ∧
    (((after .gatePoint case59).stack 3).state, ((after .gatePoint case59).stack 3).committed,
      ((after .gatePoint case59).stack 3).sealReason) = (.sealed, 500, some .target) ∧
    ((after .gatePoint case59).stack 22).sealReason = some .jobChange ∧
    (((after .gatePoint case59).stack 17).ordinal, ((after .gatePoint case59).stack 17).target,
      ((after .gatePoint case59).stack 17).committed) = (15, 1000, 1) ∧
    (after .gatePoint case59).lowestFree = some 30 := by decide +kernel

/-- Section 8.8: lanes 2, 5 and 9 hold READY records; `credits` and `last` are what the arbiter holds. -/
def case88 (credits : Vector Nat 12) (last : Option Lane) : State :=
  { State.reset with
      work := { Settings.default with arbiter := .weighted }
      shuttle := { State.reset.shuttle with credits := credits, lastWinner := last }
      memory := { State.reset.memory with
        laneRecs := vset (vset State.reset.memory.laneRecs 4 { LaneRecord.blank with weight := 2 }) 8
          { LaneRecord.blank with weight := 4 }
        stackRecs := vset (vset (vset State.reset.memory.stackRecs 0 { someStack .ready with lane := 2 })
          1 { someStack .ready with lane := 5 }) 2 { someStack .ready with lane := 9 } } }

/-- Credits of lanes 2, 5 and 9. -/
def credits88 (a b c : Nat) : Vector Nat 12 := vset (vset (vset (Vector.replicate 12 1) 1 a) 4 b) 8 c

/-- Section 8.8, grants 4 and 8: lane 5 wins past lane 2, which has no credit; after the reload lane 2 wins. -/
theorem test_grants_section_8_8 :
    (after .shuttleGrant (case88 (credits88 0 1 3) (some 8))).shuttle.state = .moving 4 1 2000 ∧
    (after .shuttleGrant (case88 (credits88 0 0 0) (some 8))).shuttle.state = .moving 1 0 2000 ∧
    (after .shuttleGrant (case88 (credits88 0 0 0) (some 8))).shuttle.credits = credits88 0 2 4 := by decide +kernel

/-- R44, R47: row 0's verdict message as its six characters, lane 1 PRINT and lane 2 GOOD. -/
theorem test_verdict_message :
    (((after .idleGap
      { lineWith .tracking .opened someEntry .opened 0 with
          verdict := { VerdictReceiver.reset with
            state := .receiving, count := 6
            kept := [some 0xC3, some 0, some 6, some 0, some 0, some (crc8 [0xC3, 0, 6, 0, 0])] } }).rowAt 0).map
        (fun r => (r.lanes[0].camera, r.lanes[1].camera, r.lanes[2].camera))) = some (.print, .good, .pending) := by
  decide +kernel

/-- R196: codes 0 to 3 in the four lanes of each byte. -/
theorem test_laneCode : (List.finRange 12).map (laneCode [0xE4, 0x1B, 0xE4]) = [0, 1, 2, 3, 3, 2, 1, 0, 0, 1, 2, 3] := by
  decide +kernel

/-- R44: the check byte of the all-ones message and of a one-byte message, by the polynomial. -/
theorem test_crc8 : crc8 [0] = 0 ∧ crc8 [1] = 0x07 ∧ crc8 [0x31, 0x32, 0x33, 0x34, 0x35, 0x36, 0x37, 0x38, 0x39] = 0xF4 := by
  decide +kernel

/-! ## The hypotheses of the statements, met -/

theorem test_hyps_StepRunsFrontCommandOrIdles :
    { State.reset with pending := [.mark] }.pending = .mark :: [] ∧ State.reset.pending = [] ∧
      State.reset.dueEvents = [] ∧ State.reset.memory.trimToSave = none := by decide +kernel

/-- A state with a take of the one delivered stack waiting. -/
def waitingTake : State := { delivered with pending := [.taken] }

theorem test_hyps_invariants : waitingTake.modesAgree ∧ waitingTake.inRanges ∧ waitingTake.queueMirrors ∧
    ∃ t, step waitingTake = .next t := by
  refine ⟨?_, ⟨?_, ?_, ?_, ?_, ?_, ?_⟩, ⟨rfl, rfl, ?_, ?_, ?_, ?_⟩, _, rfl⟩
  · unfold State.modesAgree; decide +kernel
  all_goals decide +kernel

theorem test_hyps_RequestNotTakenChangesOnlyTheResponse :
    (Instr.isRequest .modeRun = true ∧ { State.reset with pfail := true }.pfail = true) ∧
    (Instr.isRequest (.stackClose 0) = true ∧ State.reset.clean ∧
      exec (.stackClose 0) State.reset =
        .next { State.reset.framed 1 with port := .ready (responseFrame .errArg []) } ∧
      ∀ payload, ResponseSlot.ready (responseFrame .errArg []) ≠ .ready (responseFrame .ok payload)) := by
  refine ⟨⟨by decide, by decide⟩, by decide, rfl, rfl, ?_⟩
  intro payload h
  simp [responseFrame, Status.code] at h
  exact absurd h.1 (by decide)

theorem test_hyps_ReadOfRecord :
    (∀ f ∈ { State.reset with memory := { State.reset.memory with flips := [⟨.job 3, 0, 0⟩] } }.memory.flips,
      f.ref ≠ .geometry) ∧
    (⟨.job 3, 7, 38⟩ : Flip).word < RecordRef.words (.job 3) ∧ State.reset.isDamaged (.job 3) = false := by decide +kernel

/-- Two flipped bits in word `w` of a record. -/
def flipped (ref : RecordRef) (w : Nat) (s : State) : State :=
  { s with memory := { s.memory with flips := [⟨ref, w, 0⟩, ⟨ref, w, 38⟩] } }

/-- The last word of a record of each kind; the geometry record with and without an open row; each state of a stack. -/
theorem test_hyps_DoubleError :
    (∀ ref ∈ [RecordRef.counter 3, .geometry, .job 15, .lane 11, .stack 63],
      (flipped ref (ref.words - 1) State.reset).isDamaged ref = false) ∧
    (lineWith .tracking .opened someEntry .opened 0).ring.openCount ≠ 0 ∧
    ((inMode .seek).modes.mode = .seek ∧ (inMode .seek).ring.openCount = 0) ∧
    (State.reset.openOf 11 = none ∧
      (lineWith .tracking .opened someEntry .opened 0).openOf 0 = some 0 ∧
      (lineWith .tracking .opened someEntry .opened 0).pfail = false) ∧
    (∀ st ∈ [StackState.free, .opened, .quarantined .transfer, .sealed, .held, .transfer, .delivered, .ready],
      (flipped (.stack 0) 23 (lineWith .tracking .opened someEntry st 0)).isDamaged (.stack 0) = false ∧
      ((lineWith .tracking .opened someEntry st 0).stack 0).lane = (0 : Lane).val + 1) ∧
    ((lineWith .tracking .opened someEntry (.quarantined .damaged) 0).heldOf 0 = none ∧
      ((lineWith .tracking .opened someEntry (.quarantined .damaged) 0).setStack 1 (someStack .held)).heldOf 0 = some 1 ∧
      ((lineWith .tracking .opened someEntry (.quarantined .damaged) 0).setStack 1 (someStack .held)).readyOf 0 = none) := by
  decide +kernel

theorem test_hyps_EncoderTransition : State.reset.dueEvents = [] ∧ (webAt 5 State.reset).dueEvents = [] ∧
    posPast ((webAt 5 State.reset).position.position + 1) (webAt 5 State.reset).position.highWater ∧
    { State.reset with position := { PositionUnit.reset with position := 0xFFFFFFFF } }.dueEvents = [] ∧
    ¬posPast ((0xFFFFFFFF : Pos) + 1) PositionUnit.reset.highWater := by decide +kernel

/-- The web where a zone that ends at 0 and a spacing reference at 0 both expire. -/
def bothExpire : State :=
  webAt 1073741824 { State.reset with position := { PositionUnit.reset with zone := some (0, 0), spacing := some 0 } }

theorem test_hyps_EncoderTransitionWithEventsDue :
    (lineWith .tracking .opened someEntry .opened 122001).dueEvents = [.dieWindowEnd] ∧
    (takeDueTimes 1 (lineWith .tracking .opened someEntry .opened 122001)).dueEvents = [] ∧
    2 ≤ bothExpire.dueEvents.length := by decide +kernel

/-- The line in mode `m` at `p`, expecting a mark at 30,000, the last at 0. -/
def expecting (m : LineMode) (p : Nat) : State :=
  webAt p { inMode m with position := { PositionUnit.reset with expectation := some 30000, spacing := some 0 } }

/-- The line in SEEK at `p`, UNSYNCED, the last mark at 0. -/
def acquiring (p : Nat) : State :=
  webAt p { inMode .seek with position := { PositionUnit.reset with spacing := some 0 } }

theorem test_hyps_MarkNotAccepted :
    (inMode .parked).modes.mode = .parked ∧ (inMode .draining).modes.mode = .draining ∧
    posBefore { (inMode .seek).position with position := 0xFFFFFFFF }.position (inMode .seek).position.highWater ∧
    (¬posBefore (expecting .tracking 29399).position.position (expecting .tracking 29399).position.highWater ∧
      (expecting .tracking 29399).position.expectation = some 30000 ∧
      ¬posWithin (expecting .tracking 29399).position.position (posAdd 30000 (-600)) (posAdd 30000 600)) ∧
    ((acquiring 29399).modes.mode = .seek ∧ (acquiring 29399).position.expectation = none ∧
      (acquiring 29399).position.spacing = some 0 ∧
      posDiff (acquiring 29399).position.position 0 < ((acquiring 29399).work.pNom : Int) - (acquiring 29399).work.wMark) := by
  decide +kernel

theorem test_hyps_AcceptedMark :
    ((expecting .tracking 29400).clean ∧
      posWithin (expecting .tracking 29400).position.position (posAdd 30000 (-600)) (posAdd 30000 600)) ∧
    ((acquiring 29400).clean ∧
      ((acquiring 29400).work.pNom : Int) - (acquiring 29400).work.wMark ≤ posDiff (acquiring 29400).position.position 0) := by
  refine ⟨⟨rfl, ?_⟩, rfl, ?_⟩ <;> decide +kernel

/-- A lane of a serialized job whose row origin is PENDING, and one whose row origin is row 0. -/
def openingLanes (o : RowOrigin) : State :=
  { lineWith .seek .opened someEntry .opened 0 with
      lanes := vset (Vector.replicate 12 LaneUnit.reset) 0 { LaneUnit.reset with run := .active, rowOrigin := o } }

theorem test_hyps_OpenedRow : (openingLanes .pending).clean ∧
    (((openingLanes .pending).openRow .window 30000).rowAt 1).map (fun r => (r.lanes[0].snapshot, r.lanes[0].serial)) =
      some (some 0, some 100) ∧
    (((openingLanes (.row 0)).openRow .window 30000).rowAt 1).map (fun r => (r.lanes[0].snapshot, r.lanes[0].serial)) =
      some (some 0, some 101) ∧
    (((openingLanes .none).openRow .window 30000).rowAt 1).map (fun r => (r.lanes[0].snapshot, r.lanes[0].serial)) =
      some (none, none) := by
  refine ⟨rfl, ?_⟩; decide +kernel

theorem test_hyps_SyntheticMark :
    ((expecting .tracking 30601).clean ∧ (expecting .tracking 30601).modes.mode = .tracking ∧
      (expecting .tracking 30601).position.expectation = some 30000 ∧
      (expecting .tracking 30601).position.advanced = true ∧
      (expecting .tracking 30601).position.highWater = posAdd (posAdd 30000 (600 : Nat)) 1) ∧
    (expecting .seek 30600).position.highWater ≠ posAdd (posAdd 30000 (600 : Nat)) 1 ∧
    State.reset.position.advanced = false ∧ (acquiring 0).position.expectation = none := by
  refine ⟨⟨rfl, ?_⟩, ?_⟩ <;> decide +kernel

/-- The line in mode `m` after `k` synthetic rows, the settle count at `n`. -/
def losing (m : LineMode) (k : Count) (n : Nat) : State :=
  { expecting m 0 with
      position := { (expecting m 0).position with consecutiveSynthetic := k }
      register := { (RegisterUnit.reset 0 0) with settle := n } }

theorem test_hyps_LossLimit : (losing .tracking 3 0).position.expectation ≠ none ∧
    (losing .tracking 3 0).work.lossLimit ≤ (losing .tracking 3 0).position.consecutiveSynthetic.toNat ∧
    (losing .seek 3 0).modes.mode = .seek ∧
    (losing .seek 2 0).position.consecutiveSynthetic.toNat < (losing .seek 2 0).work.lossLimit ∧
    (losing .seek 0 8).work.nSettle ≤ (losing .seek 0 8).register.settle ∧
    (losing .seek 0 7).register.settle < (losing .seek 0 7).work.nSettle := by decide +kernel

theorem test_hyps_ReverseEvent :
    { lineWith .tracking .cut someEntry .opened 0 with
      position := { PositionUnit.reset with reverseDue := true } }.position.reverseDue = true ∧
    (lineWith .tracking .cut someEntry .opened 0).modes.mode = .tracking ∧
    (inMode .parked).modes.mode = .parked ∧ State.reset.position.reverseDue = false := by decide +kernel

/-- A zone [0, 2,000) and a spacing reference at 0, the web at `p`. -/
def expiring (p : Nat) : State :=
  webAt p { inMode .tracking with position := { PositionUnit.reset with zone := some (0, 2000), spacing := some 0 } }

theorem test_hyps_SpliceAndExpiries :
    State.reset.position.zone = none ∧ (expiring 0).position.zone = some (0, 2000) ∧
    ((expiring 1073743824).position.advanced = true ∧
      (expiring 1073743824).position.highWater = posAdd 2000 1073741824) ∧
    State.reset.position.advanced = false ∧
    (expiring 1073743823).position.highWater ≠ posAdd 2000 1073741824 ∧
    (expiring 1073741824).position.highWater = posAdd 0 1073741824 ∧
    (expiring 1073741823).position.highWater ≠ posAdd 0 1073741824 := by decide +kernel
theorem test_hyps_DieIndex :
    posBefore { State.reset.position with position := 0xFFFFFFFF }.position State.reset.position.highWater ∧
    (lineWith .tracking .opened someEntry .opened 122001).noOpen
      (fun r => r.phase = .opened ∧ (posDiff 122001 r.expected).natAbs ≤ 2000) ∧
    (lineWith .tracking .opened someEntry .opened 122000).firstOpen
      (fun r => r.phase = .opened ∧ (posDiff 122000 r.expected).natAbs ≤ 2000) 0 (someRow .opened someEntry) ∧
    (lineWith .tracking .opened someEntry .opened 120400).firstOpen
      (fun r => r.phase = .opened ∧ (posDiff 120400 r.expected).natAbs ≤ 2000) 0 (someRow .opened someEntry) ∧
    ¬posBefore (webAt 122000 State.reset).position.position (webAt 122000 State.reset).position.highWater := by
  refine ⟨by decide, noOpen_of_only (i := 0) (r := someRow .opened someEntry) ?_ ?_ ?_,
    firstOpen_of_only ?_ ?_ ?_, firstOpen_of_only ?_ ?_ ?_, ?_⟩ <;> decide +kernel

theorem test_hyps_RegisterLoop : (0 : Int) ≤ 16 * 5 - 80 ∧ 16 * 5 - 81 < (0 : Int) ∧ (0 : Int) < 0 + 1 := by decide

theorem test_hyps_DieWindowEnd :
    (lineWith .tracking .opened someEntry .opened 122001).firstOpen
      (fun q => q.phase = .opened ∧ (lineWith .tracking .opened someEntry .opened 122001).position.advanced = true ∧
        (122001 : Pos) ≠ q.mark ∧ (122001 : Pos) = posAdd (posAdd q.expected (2000 : Nat)) 1) 0
      (someRow .opened someEntry) ∧
    (lineWith .tracking .opened someEntry .opened 122000).noOpen
      (fun q => q.phase = .opened ∧ (lineWith .tracking .opened someEntry .opened 122000).position.advanced = true ∧
        (122000 : Pos) ≠ q.mark ∧ (122000 : Pos) = posAdd (posAdd q.expected (2000 : Nat)) 1) := by
  refine ⟨firstOpen_of_only ?_ ?_ ?_, noOpen_of_only (i := 0) (r := someRow .opened someEntry) ?_ ?_ ?_⟩ <;>
    decide +kernel

/-- SEEK after reset, with the shortest D_die, the earliest O_cut and the narrowest window: a row's die window end lies one
before its mark. -/
def endBehind : State := { inMode .seek with work := { Settings.default with dDie := 1000, oCut := -1017, wDie := 16 } }

/-- R3: a window end at which the web stood before its row was opened is not passed, at reset or at any high-water. -/
theorem test_windowEndBehind_notPassed :
    (∀ p, p = 0 ∨ p = 5000 → (((webAt p endBehind).openRow .acquisition (BitVec.ofNat 32 p)).dueDieWindow = none)) ∧
    (endBehind.openRow .acquisition 0).dueEvents = [] ∧ endBehind.openSlots = [] ∧
    (endBehind.openRow .acquisition 0).openSlots = [0] := by
  refine ⟨?_, by decide +kernel, by decide +kernel, by decide +kernel⟩
  rintro _ (rfl | rfl) <;> decide +kernel

/-- R3, R12: the window end of a synthetic row that the up-count opening the row passes is passed (log entry 4). -/
theorem test_windowEndAtSyntheticOpening :
    ((webAt 601 { endBehind with work := { endBehind.work with oCut := -416 } }).openRow .synthetic 0).dueDieWindow =
      some 0 := by decide +kernel

/-- The web run far back, a splice there, and high-water where the zone it forms expires. -/
def zoneBehind : State :=
  after .splice { State.reset with position := { PositionUnit.reset with
    highWater := posAdd (spliceSpan State.reset 0).2 expiryDistance } }

/-- R3: running back and forward again, and a splice whose zone expires where high-water stands, reach no threshold. -/
theorem test_thresholdOnlyAtItsCount :
    (lineWith .tracking .opened someEntry .opened 122001).dueEvents = [.dieWindowEnd] ∧
    ((lineWith .tracking .opened someEntry .opened 122001).countEncoder .backward).dueEvents = [] ∧
    (((lineWith .tracking .opened someEntry .opened 122001).countEncoder .backward).countEncoder .forward).dueEvents = [] ∧
    ((lineWith .tracking .opened someEntry .opened 122000).countEncoder .forward).dueEvents = [.dieWindowEnd] ∧
    zoneBehind.position.zone.any (fun z => zoneBehind.position.highWater == posAdd z.2 expiryDistance) = true ∧
    zoneBehind.dueEvents = [] := by
  decide +kernel

/-- A trim message. -/
def someTrim : TrimMessage :=
  { tag := 0, trim := 0, held := false, limit := false, misreg := false, miscut := false, settling := false }

/-- The transmitter sending, with `k` messages waiting. -/
def sendingWith (k : Nat) : State :=
  { State.reset with register := { RegisterUnit.reset 0 0 with
      sending := some (someTrim, .b460800), waiting := List.replicate k someTrim } }

theorem test_hyps_TrimTransmitter : State.reset.register.sending = none ∧
    (sendingWith 0).register.sending = some (someTrim, .b460800) ∧ (sendingWith 0).register.waiting = [] ∧
    (sendingWith 1).register.waiting = someTrim :: [] ∧ (sendingWith 3).register.waiting.length < 4 ∧
    4 ≤ (sendingWith 4).register.waiting.length := by decide +kernel

/-- R70, R196: the six bytes of a message with T −2 and every second flag. -/
theorem test_trimBytes :
    (trimBytes { someTrim with tag := 7, trim := -2, held := true, misreg := true, settling := true }).take 5 =
      [0x3C, 7, 0xFF, 0xFE, 0x15] := by decide +kernel

/-- The receiver with `k` characters kept, and a line with one open row in phase `ph`. -/
def receiving (kept : List (Option Byte)) (ph : Phase) (st : StackState) : State :=
  { lineWith .tracking ph fallingEntry st 0 with
      verdict := { VerdictReceiver.reset with
        state := .receiving, kept := kept, count := BitVec.ofNat 8 kept.length } }

/-- The six characters of a message with tag 0 that rejects lane 1. -/
def rejectMessage : List (Option Byte) :=
  [some 0xC3, some 0, some 2, some 0, some 0, some (crc8 [0xC3, 0, 2, 0, 0])]

theorem test_hyps_VerdictCharacter : State.reset.verdict.state = .hunt ∧
    { VerdictReceiver.reset with state := .idle }.state = .idle ∧
    (receiving (rejectMessage.take 5) .opened .opened).verdict.state = .receiving ∧
    (receiving (rejectMessage.take 5) .opened .opened).verdict.kept.length < 6 ∧
    ¬(receiving rejectMessage .opened .opened).verdict.kept.length < 6 := by decide +kernel

theorem test_hyps_IdleGapDropsMalformed :
    (receiving (rejectMessage.take 5) .opened .opened).verdict.count ≠ 6 ∧
    ¬∃ tag b2 b3 b4 : Byte, (receiving (rejectMessage.take 5 ++ [some 0]) .opened .opened).verdict.kept =
      [some 0xC3, some tag, some b2, some b3, some b4, some (crc8 [0xC3, tag, b2, b3, b4])] := by
  refine ⟨by decide +kernel, ?_⟩
  rintro ⟨tag, b2, b3, b4, h⟩
  simp only [receiving, rejectMessage, List.take, List.cons_append, List.nil_append, List.cons.injEq, Option.some.injEq]
    at h
  obtain ⟨-, rfl, rfl, rfl, rfl, h, -⟩ := h
  exact absurd h (by decide +kernel)

theorem test_hyps_IdleGapTakesMessage :
    (receiving rejectMessage .opened .opened).verdict.count = 6 ∧
    (receiving rejectMessage .opened .opened).verdict.spoiled = false ∧
    (receiving rejectMessage .opened .opened).verdict.kept =
      [some 0xC3, some 0, some 2, some 0, some 0, some (crc8 [0xC3, 0, 2, 0, 0])] ∧
    (receiving rejectMessage .opened .opened).rowAt (Fin.ofNat 128 (0 : Byte).toNat) =
      some (someRow .opened fallingEntry) ∧
    (someRow .opened fallingEntry).number.setWidth 8 = (0 : Byte) ∧
    (receiving rejectMessage .retired .opened).rowAt 0 = some (someRow .retired fallingEntry) ∧
    ((receiving rejectMessage .decided .sealed).rowAt 0 = some (someRow .decided fallingEntry) ∧
      (receiving rejectMessage .decided .sealed).memory.flips = [] ∧
      (receiving rejectMessage .decided .sealed).memory.damagedSet = [] ∧
      (receiving rejectMessage .decided .sealed).memory.stackRecs[0].state = .sealed ∧
      (someRow .decided fallingEntry).lanes[0].disposition = .stack 0 ∧ 2 ≤ (laneCode [2, 0, 0] 0).toNat ∧
      (receiving rejectMessage .decided .sealed).memory.stackRecs[0].lane = 0 + 1) := by decide +kernel

theorem test_hyps_RowReject : State.reset.pfail = false ∧ (0x1000 : BitVec 16) &&& 0xF000 ≠ 0 ∧
    State.reset.rowAt (Fin.ofNat 128 (5 : Byte).toNat) = none ∧ (0x0FFF : BitVec 16) ≠ 0 ∧
    (0x0FFF : BitVec 16) &&& 0xF000 = 0 ∧
    (lineWith .tracking .decided someEntry .opened 0).rowAt 0 = some (someRow .decided someEntry) ∧
    (lineWith .tracking .cut someEntry .opened 0).rowAt 0 = some (someRow .cut someEntry) ∧
    (lineWith .tracking .retired someEntry .opened 0).rowAt 0 = some (someRow .retired someEntry) := by decide +kernel

theorem test_hyps_GatePoint : (inMode .parked).modes.mode = .parked ∧
    (lineWith .tracking .cut someEntry .opened 149999).noOpen
      (fun q => (q.phase = .opened ∨ q.phase = .cut) ∧
        (lineWith .tracking .cut someEntry .opened 149999).position.advanced = true ∧
        (149999 : Pos) = posAdd q.mark (150000 : Nat)) ∧
    (∀ ph, ph = .opened ∨ ph = .cut →
      (lineWith .draining ph someEntry .opened 150000).modes.mode ≠ .parked ∧
      (lineWith .draining ph someEntry .opened 150000).firstOpen
        (fun q => (q.phase = .opened ∨ q.phase = .cut) ∧
          (lineWith .draining ph someEntry .opened 150000).position.advanced = true ∧
          (150000 : Pos) = posAdd q.mark (150000 : Nat)) 0
        (someRow ph someEntry)) := by
  refine ⟨by decide, noOpen_of_only (i := 0) (r := someRow .cut someEntry) ?_ ?_ ?_, ?_⟩
  iterate 3 decide +kernel
  rintro _ (rfl | rfl) <;> refine ⟨by decide, firstOpen_of_only ?_ ?_ ?_⟩ <;> decide +kernel

/-- A line with a row whose lane 1 no waste condition takes. -/
def goodLine : State := lineWith .tracking .cut someEntry .opened 150000

/-- The first line of the gate table and the last of its waste lines, and none at all. -/
theorem test_hyps_FirstWasteCondition :
    (State.clean goodLine ∧ goodLine.rowAt 0 = some (someRow .cut someEntry)) ∧
    (wasteCondition goodLine (someRow .cut someEntry) 1 .laneOff ∧ ∀ w' : WasteReason, ¬w'.code < WasteReason.laneOff.code) ∧
    (wasteCondition goodLine (someRow .cut { someEntry with camera := .pending }) 0 .noverdict ∧
      ∀ w' : WasteReason, w'.code < WasteReason.noverdict.code →
        ¬wasteCondition goodLine (someRow .cut { someEntry with camera := .pending }) 0 w') ∧
    ∀ w : WasteReason, ¬wasteCondition goodLine (someRow .cut someEntry) 0 w := by
  refine ⟨⟨rfl, by decide +kernel⟩, ⟨Or.inl (by decide +kernel), ?_⟩, ⟨⟨by decide +kernel, by decide +kernel⟩, ?_⟩, ?_⟩
  · intro w'; cases w' <;> decide
  · intro w' h; cases w' <;> revert h <;> simp only [wasteCondition] <;> decide +kernel
  · intro w; cases w <;> simp only [wasteCondition] <;> decide +kernel

/-- The clauses on every image: the reads of R79 leave a clean line as it is, and a damaged FREE record gives way to the
next. -/
theorem test_hyps_ReadsOfDecision : readRecord (.job 0) goodLine = goodLine ∧
    goodLine.lowestFree = some 1 ∧ (∀ n, n ≠ 0 → (goodLine.stack n).state = .free) ∧
    ((flipped (.stack 1) 0 goodLine).readFree 64).lowestFree = some 2 ∧
    ((flipped (.stack 1) 0 goodLine).readFree 64).memory.flips = [] := by
  refine ⟨Laws.readRecord_clean _ _ rfl, ?_⟩
  decide +kernel

/-- Row 0 at its gate point with entry `e` of lane 1, and one bit of word 0 of a record flipped. -/
def decidedOnFlip (ref : RecordRef) (e : LaneEntry) : State :=
  let s := lineWith .tracking .cut e .opened 150000
  after .gatePoint { s with memory := { s.memory with flips := [⟨ref, 0, 0⟩] } }

/-- R79, R82: a decision reads the lane's OPEN record and the lowest FREE record on a waste line too, and another lane's
decision the FREE record, but a lane whose label is SAMPLE reads neither. -/
theorem test_decisionReads :
    (decidedOnFlip (.stack 0) { someEntry with camera := .print }).memory.corrected = 1 ∧
    (decidedOnFlip (.stack 1) { someEntry with camera := .print }).memory.corrected = 1 ∧
    (decidedOnFlip (.stack 2) { someEntry with camera := .print }).memory.corrected = 0 ∧
    (State.decideLane 0
      { goodLine.setJob 0 { someJob with sampleEnable := true } with
          memory := { (goodLine.setJob 0 { someJob with sampleEnable := true }).memory with
            flips := [⟨.stack 0, 0, 0⟩, ⟨.stack 1, 0, 0⟩] } } 0).memory.corrected = 0 := by decide +kernel

/-- The same line with the job of slot 0 in state `st`. -/
def goodLineWithJob (st : SlotState) : State := goodLine.setJob 0 { someJob with state := st }

theorem test_hyps_SealEndedJob : goodLine.openOf 1 = none ∧ { goodLine with pfail := true }.pfail = true ∧
    goodLine.openOf 0 = some 0 ∧ goodLine.pfail = false ∧
    (goodLine.job (goodLine.stack 0).slot).state = .active ∧
    (goodLine.job (goodLine.stack 0).slot).jobId = (goodLine.stack 0).jobId ∧
    ((goodLineWithJob .ending).job ((goodLineWithJob .ending).stack 0).slot).state ≠ .active := by decide +kernel

theorem test_hyps_LabelPastWasteLines : (someRow .cut someEntry).lanes[0].snapshot = some 0 ∧ goodLine.pfail = false ∧
    ¬(goodLine.job 0).sampleEnable = true ∧
    { someJob with sampleEnable := true, sampleMask := 63, sampleValue := 0 }.sampleEnable = true ∧
    (∀ b, b < 6 → (63 : BitVec 6).getLsbD b = true →
      (someRow .cut someEntry).number.getLsbD b = (0 : BitVec 6).getLsbD b) := by decide +kernel

/-- The serial part of a record whose last committed serial is `a`, with `f` foreseen gaps. -/
def heldSerials (a f : Nat) : SerialPart :=
  { first := some 0, lastCommitted := some a, lastLanded := none, foreseen := f, gaps := [] }

theorem test_hyps_OfferRefusal : (someStack .opened).slot ≠ (1 : JobSlot) ∧
    (someStack .opened).slot = 0 ∧ (someStack .opened).jobId = someJob.jobId ∧ someJob.serialized = true ∧
    { someJob with serialMode := .none }.serialized = false ∧
    serialDistance .up 1 100 100 = some 0 ∧ serialDistance .up 1 100 101 = some 1 ∧
    serialDistance .up 1 100 102 = some 2 ∧ serialDistance .up 1 100 10099 = some 9999 ∧
    serialDistance .up 1 100 10100 = some 10000 ∧ serialDistance .up 2 100 101 = none ∧
    (heldSerials 100 2).foreseen = someJob.gapLimit ∧ (heldSerials 100 1).foreseen < someJob.gapLimit := by decide

theorem test_hyps_SerialDistanceInverts : 1 ≤ 16 ∧ 16 ≤ 16 ∧ 99999999 < 100000000 ∧ 16 * 6249999 < 100000000 := by decide

theorem test_hyps_CommitToOpenRecord : State.sound goodLine ∧ goodLine.rowAt 0 = some (someRow .cut someEntry) ∧
    goodLine.openOf 0 = some 0 ∧
    offerRefusal (goodLine.job 0) 0 (someRow .cut someEntry).lanes[0].serial (goodLine.stack 0) = none ∧
    (goodLine.stack 0).committed + 1 = (goodLine.stack 0).target := by
  refine ⟨⟨rfl, rfl, rfl⟩, ?_⟩; decide +kernel

theorem test_hyps_CommitNeedsNewRecord : State.sound goodLine ∧ goodLine.openOf 1 = none ∧ goodLine.openOf 0 = some 0 ∧
    offerRefusal (goodLine.job 1) 1 none (goodLine.stack 0) = some .jobChange := by
  refine ⟨⟨rfl, rfl, rfl⟩, ?_⟩; decide +kernel

/-- A line whose lane 1 has a SEALED, a HELD and a READY record, and one with no FREE record. -/
def piledLine : State :=
  { goodLine with memory := { goodLine.memory with
      stackRecs := vset (vset State.reset.memory.stackRecs 0 (someStack .sealed)) 63 (someStack .ready) } }

/-- No FREE record. -/
def fullLine : State :=
  { goodLine with memory := { goodLine.memory with
      stackRecs := Vector.replicate 64 { someStack .delivered with lane := 12 } } }

theorem test_hyps_NewRecord : State.sound piledLine ∧ State.sound fullLine ∧ State.sound goodLine ∧
    2 ≤ (piledLine.pile 0).length ∧
    ((fullLine.pile 0).length < 2 ∧ ∀ n, (fullLine.stack n).state ≠ .free) ∧
    ((goodLine.pile 0).length < 2 ∧ (goodLine.stack 1).state = .free ∧ ∀ m, m < 1 → (goodLine.stack m).state ≠ .free) := by
  refine ⟨⟨rfl, rfl, rfl⟩, ⟨rfl, rfl, rfl⟩, ⟨rfl, rfl, rfl⟩, ?_⟩; decide +kernel

/-- No FREE record, and lane 1 BLOCKED. -/
def blockedLine : State :=
  { fullLine with lanes := vset fullLine.lanes 0 { LaneUnit.reset with run := .blocked .slots } }

theorem test_hyps_UnblockTest : blockedLine.lanes[0].run = .blocked .slots ∧
    (∀ l : Lane, (after .laneUnblock blockedLine).lanes[l].run = if l = 0 then .blocked .noRecord else .off) := by
  decide +kernel

/-- Counter 0 with a configuration, its values and row count. -/
def counting (mode : CounterMode) (threshold : Nat) (working published : Count) (rows : Nat) : State :=
  { State.reset with
    counters := vset State.reset.counters 0
      { config := { CounterConfig.blank with mode := mode, window := 2, threshold := threshold, action := .stop }
        working := working, published := published, rows := rows } }

theorem test_hyps_Counters : (counting .window 5 5 0 2).counterOff 0 = false ∧
    (counting .window 5 5 0 2).counters[0].config.mode = .window ∧
    (counting .window 5 5 0 2).counters[0].config.window ≤ (counting .window 5 5 0 2).counters[0].rows ∧
    (counting .window 5 5 0 1).counters[0].rows < (counting .window 5 5 0 1).counters[0].config.window ∧
    (counting .accumulate 5 5 4 0).counters[0].config.mode = .accumulate ∧
    (counting .accumulate 5 5 4 0).counters[0].published.toNat < 5 ∧
    5 ≤ (counting .accumulate 5 5 5 0).counters[0].published.toNat ∧
    (counting .accumulate 0 5 5 0).counters[0].config.threshold = 0 ∧
    { State.reset with memory := { State.reset.memory with
        counterRecs := vset State.reset.memory.counterRecs 0 { CounterConfig.blank with damaged := true } } }.counterOff 0 =
      true := by decide +kernel
/-- A line with the label of lane 1 on its way to stack 0, the web at `p`. -/
def falling (st : StackState) (p : Nat) : State := lineWith .tracking .decided fallingEntry st p

theorem test_hyps_PocketCredited :
    (∀ p, p = 154000 ∨ p = 170000 →
      (State.clean (falling .sealed p) ∧ (falling .sealed p).memory.damagedSet = [] ∧
        ¬posBefore (falling .sealed p).position.position (falling .sealed p).position.highWater) ∧
      (falling .sealed p).firstOpen (fun q => q.lanes[0].landing = .awaiting ∧
        posWithin (falling .sealed p).position.position (posAdd (posAdd q.mark (150000 : Nat)) (4000 : Nat))
          (posAdd (posAdd q.mark (150000 : Nat)) (20000 : Nat))) 0 (someRow .decided fallingEntry) ∧
      (someRow .decided fallingEntry).lanes[0].disposition = .stack 0 ∧
      ((falling .sealed p).stack 0).state ≠ .quarantined .damaged ∧ ((falling .sealed p).stack 0).serial.isSome = true) ∧
    (StackRecord.zero .sealed).serial = none ∧ { falling .sealed 154000 with pfail := true }.pfail = true ∧
    ((falling .sealed 154000).job 0).serialized = true ∧
    (((falling .sealed 154000).setJob 0 (JobRecord.zero .active)).job 0).serialized = false := by
  refine ⟨?_, by decide, by decide, by decide +kernel, by decide +kernel⟩
  rintro _ (rfl | rfl) <;>
    refine ⟨⟨rfl, rfl, by decide +kernel⟩, firstOpen_of_only ?_ ?_ ?_, ?_⟩ <;> decide +kernel

/-- A label of a record that carries its damage mark, and of one that the read for the landing finds damaged. -/
theorem test_hyps_PocketOnDamagedRecord :
    ¬posBefore (falling (.quarantined .damaged) 154000).position.position
      (falling (.quarantined .damaged) 154000).position.highWater ∧
    (falling (.quarantined .damaged) 154000).firstOpen (fun q => q.lanes[0].landing = .awaiting ∧
      posWithin (falling (.quarantined .damaged) 154000).position.position
        (posAdd (posAdd q.mark (150000 : Nat)) (4000 : Nat)) (posAdd (posAdd q.mark (150000 : Nat)) (20000 : Nat))) 0
      (someRow .decided fallingEntry) ∧
    ((falling (.quarantined .damaged) 154000).stack 0).state = .quarantined .damaged ∧
    (flipped (.stack 0) 3 (falling .sealed 154000)).firstOpen (fun q => q.lanes[0].landing = .awaiting ∧
      posWithin (falling .sealed 154000).position.position (posAdd (posAdd q.mark (150000 : Nat)) (4000 : Nat))
        (posAdd (posAdd q.mark (150000 : Nat)) (20000 : Nat))) 0 (someRow .decided fallingEntry) ∧
    (((readRecord (.stack 0) (flipped (.stack 0) 3 (falling .sealed 154000))).stack 0).state = .quarantined .damaged ∧
      (flipped (.stack 0) 3 (falling .sealed 154000)).pfail = false) := by
  refine ⟨by decide +kernel, firstOpen_of_only ?_ ?_ ?_, by decide +kernel, firstOpen_of_only ?_ ?_ ?_, ?_⟩ <;>
    decide +kernel

/-- Gap lists of `k` entries. -/
def gapsOf (k : Nat) : List Gap := List.replicate k { start := 0, length := 1, cause := .sample }

/-- The distances that the clauses on the missing run take, and the lengths of the lists. -/
theorem test_hyps_GapCheck : serialDistance .up 1 104 104 = some 0 ∧ serialDistance .up 1 104 105 = some 1 ∧
    serialDistance .up 1 104 106 = some 2 ∧ serialDistance .up 1 0 9999 = some 9999 ∧
    serialDistance .up 1 0 10000 = some 10000 ∧ serialDistance .up 1 0 30001 = some (30000 + 1) ∧
    serialAt .up 1 0 1 = 1 ∧ 1 < 100000000 ∧ (gapsOf 7).length < 8 := by decide

/-- R131: a run of 30,000 serials takes four entries, the last of three serials. -/
theorem test_gapPieces : (gapPieces .up 1 1 30000 .resume).map (fun g => (g.start, g.length)) =
    [(1, 9999), (10000, 9999), (19999, 9999), (29998, 3)] ∧
    (enterGap .up 1 .resume 9 1 30000 (gapsOf 6, false)).1.length = 8 ∧
    (enterGap .up 1 .resume 9 1 30000 (gapsOf 6, false)).2 = true := by decide +kernel

theorem test_hyps_StrayPocket :
    posBefore { State.reset.position with position := 0xFFFFFFFF }.position State.reset.position.highWater ∧
    (∀ p, p = 153999 ∨ p = 170001 →
      (falling .sealed p).noOpen (fun q => q.lanes[0].landing = .awaiting ∧
        posWithin (falling .sealed p).position.position (posAdd (posAdd q.mark (150000 : Nat)) (4000 : Nat))
          (posAdd (posAdd q.mark (150000 : Nat)) (20000 : Nat))) ∧
      (falling .sealed p).firstOpen (fun q => q.lanes[0].landing = .awaiting) 0 (someRow .decided fallingEntry) ∧
      (∀ c, ((falling .sealed p).stack 0).state ≠ .quarantined c)) ∧
    State.reset.openSlots = [] ∧ State.reset.openOf 0 = none ∧
    goodLine.noOpen (fun q => q.lanes[0].landing = .awaiting) ∧ goodLine.openOf 0 = some 0 ∧
    ((falling (.quarantined .transfer) 0).stack 0).state = .quarantined .transfer := by
  refine ⟨by decide, ?_, by decide +kernel, by decide +kernel,
    noOpen_of_only (i := 0) (r := someRow .cut someEntry) ?_ ?_ ?_, ?_⟩
  rintro _ (rfl | rfl) <;>
    refine ⟨noOpen_of_only (i := 0) (r := someRow .decided fallingEntry) ?_ ?_ ?_, firstOpen_of_only ?_ ?_ ?_, ?_⟩
  all_goals first
    | decide +kernel
    | (intro c; cases c <;> decide +kernel)

theorem test_hyps_LandingWindowEnd :
    (falling .sealed 170001).firstOpen (fun q => (∃ l : Lane, q.lanes[l].landing = .awaiting) ∧
      (falling .sealed 170001).position.advanced = true ∧
      (falling .sealed 170001).position.highWater =
        posAdd (posAdd (posAdd q.mark (150000 : Nat)) (20000 : Nat)) 1) 0 (someRow .decided fallingEntry) ∧
    (falling .sealed 170000).noOpen (fun q => (∃ l : Lane, q.lanes[l].landing = .awaiting) ∧
      (falling .sealed 170000).position.advanced = true ∧
      (falling .sealed 170000).position.highWater = posAdd (posAdd (posAdd q.mark (150000 : Nat)) (20000 : Nat)) 1) ∧
    (someRow .decided fallingEntry).lanes[1].landing ≠ .awaiting ∧
    (State.sound (falling .sealed 170001) ∧ ((falling .sealed 170001).stack 0).state ≠ .quarantined .damaged) ∧
    ((falling .sealed 0).lanes[0].run ≠ .off ∧
      (falling .sealed 0).lanes[0].consecutiveLost.toNat < (falling .sealed 0).work.jamLimit ∧
      (falling .sealed 0).work.jamLimit ≤ { (falling .sealed 0).lanes[0] with consecutiveLost := 2 }.consecutiveLost.toNat) := by
  refine ⟨firstOpen_of_only ?_ ?_ ?_, noOpen_of_only (i := 0) (r := someRow .decided fallingEntry) ?_ ?_ ?_, ?_,
    ⟨⟨rfl, rfl, rfl⟩, ?_⟩, ?_⟩ <;> decide +kernel

/-- Stack 0 of lane 1 with counts, SEALED, and record 1 of lane 1 in state `other`. -/
def completing (landed committed : Nat) (other : StackState) : State :=
  (goodLine.setStack 0 { someStack .sealed with landed := landed, committed := committed }).setStack 1 (someStack other)

theorem test_hyps_CompleteRecord :
    ((completing 1 1 .ready).pfail = false ∧ ((completing 1 1 .ready).stack 0).state = .sealed ∧
      ((completing 1 1 .ready).stack 0).landed + ((completing 1 1 .ready).stack 0).lost =
        ((completing 1 1 .ready).stack 0).committed ∧
      ((completing 1 1 .ready).stack 0).lane = (0 : Lane).val + 1 ∧ (completing 1 1 .ready).readyOf 0 ≠ none) ∧
    (completing 1 1 .free).readyOf 0 = none ∧ ((completing 0 0 .free).stack 0).committed = 0 ∧
    ((completing 0 1 .free).stack 0).landed + ((completing 0 1 .free).stack 0).lost ≠
      ((completing 0 1 .free).stack 0).committed ∧
    (goodLine.heldOf 0 = none ∧ State.sound (completing 1 1 .held) ∧ (completing 1 1 .held).heldOf 0 = some 1 ∧
      (completing 1 1 .held).readyOf 0 = none) := by
  refine ⟨?_, ?_, ?_, ?_, ?_, ⟨rfl, rfl, rfl⟩, ?_⟩ <;> decide +kernel

/-- The line with its one row DECIDED and nothing awaited. -/
def decidedLine (m : LineMode) : State := lineWith m .decided someEntry .opened 0

theorem test_hyps_RowRetire : State.reset.ring.openCount = 0 ∧
    (decidedLine .draining).rowAt (ringSlot ((decidedLine .draining).ring.next - BitVec.ofNat 32 1)) =
      some (someRow .decided someEntry) ∧
    (someRow .cut someEntry).phase ≠ .decided ∧ (someRow .decided fallingEntry).lanes[0].landing = .awaiting ∧
    (State.clean (decidedLine .draining) ∧ (decidedLine .draining).ring.openCount = 1 ∧
      ∀ l : Lane, (someRow .decided someEntry).lanes[l].landing ≠ .awaiting) ∧
    { (decidedLine .draining).ring with next := 2, openCount := 2 }.openCount ≠ 1 := by
  refine ⟨?_, ?_, ?_, ?_, ⟨rfl, ?_⟩, ?_⟩ <;> decide +kernel

theorem test_hyps_SlotEmptiesAndDrainCompletes : (State.reset.job 0).state ≠ .ending ∧
    (goodLineWithJob .ending).slotReferenced 0 = true ∧
    (State.sound (State.reset.setJob 0 { someJob with state := .ending }) ∧
      ((State.reset.setJob 0 { someJob with state := .ending }).job 0).state = .ending ∧
      (State.reset.setJob 0 { someJob with state := .ending }).slotReferenced 0 = false) ∧
    (inMode .parked).modes.mode ≠ .draining ∧ (decidedLine .draining).ring.openCount ≠ 0 ∧
    (State.clean (inMode .draining) ∧ (inMode .draining).modes.mode = .draining ∧ (inMode .draining).ring.openCount = 0) := by
  refine ⟨?_, ?_, ⟨⟨rfl, rfl, rfl⟩, ?_⟩, ?_, ?_, rfl, ?_⟩ <;> decide +kernel

/-- A READY record of lane 1 in stack 0, and one of lane 2 in state `other` in stack 1. -/
def readyLine (arbiter : ArbiterMode) (credits : Nat) (other : StackState) : State :=
  { (goodLine.setStack 0 (someStack .ready)).setStack 1 { someStack other with lane := 2 } with
      work := { Settings.default with arbiter := arbiter }
      shuttle := { State.reset.shuttle with credits := Vector.replicate 12 credits, lastWinner := some 11 } }

theorem test_hyps_GrantInStrict : (∀ l : Lane, State.reset.readyOf l = none) ∧
    12 ≤ { delivered.queue with entries := List.replicate 12 (some 0) }.entries.length ∧
    State.sound (readyLine .strict 1 .ready) ∧ (readyLine .strict 1 .ready).shuttle.state = .idle ∧
    (readyLine .strict 1 .ready).queue.entries.length < (readyLine .strict 1 .ready).work.capacity ∧
    (readyLine .strict 1 .ready).readyOf 0 = some 0 ∧
    (∀ m, ((readyLine .strict 1 .ready).stack m).state = .ready →
      ((readyLine .strict 1 .ready).stack m).lane = (0 : Lane).val + 1 → m = 0) ∧
    (∀ k : Lane, (readyLine .strict 1 .ready).readyOf k ≠ none → k ≠ 0 →
      ((readyLine .strict 1 .ready).laneRec 0).priority < ((readyLine .strict 1 .ready).laneRec k).priority ∨
        ((readyLine .strict 1 .ready).laneRec 0).priority = ((readyLine .strict 1 .ready).laneRec k).priority ∧ 0 < k) := by
  refine ⟨?_, ?_, ⟨rfl, rfl, rfl⟩, ?_⟩ <;> decide +kernel

theorem test_hyps_GrantInWeighted :
    (State.sound (readyLine .weighted 1 .held) ∧ (readyLine .weighted 1 .held).heldOf 1 = some 1 ∧
      (readyLine .weighted 1 .held).heldOf 0 = none ∧ 0 < (readyLine .weighted 1 .held).shuttle.credits[0] ∧
      (0 : Lane) = Fin.ofNat 12 ((11 + 1) + 0)) ∧
    (State.sound (readyLine .weighted 0 .ready) ∧ (∃ l : Lane, (readyLine .weighted 0 .ready).readyOf l ≠ none) ∧
      ∀ l : Lane, (readyLine .weighted 0 .ready).readyOf l = none ∨ (readyLine .weighted 0 .ready).shuttle.credits[l] = 0) := by
  refine ⟨⟨⟨rfl, rfl, rfl⟩, ?_⟩, ⟨rfl, rfl, rfl⟩, ?_⟩ <;> decide +kernel

theorem test_hyps_TransferEnds : (movingWith .transfer).shuttle.state = .moving 0 0 2000 ∧
    State.sound (movingWith .transfer) ∧ ((movingWith .transfer).stack 0).state = .transfer ∧
    State.sound (movingWith (.quarantined .damaged)) ∧ ((movingWith (.quarantined .damaged)).stack 0).state ≠ .transfer ∧
    { movingWith .transfer with pfail := true }.pfail = true ∧ State.reset.shuttle.state = .idle ∧
    { State.reset.shuttle with state := .faulted }.state = .faulted := by
  refine ⟨?_, ⟨rfl, rfl, rfl⟩, ?_, ⟨rfl, rfl, rfl⟩, ?_⟩ <;> decide +kernel

theorem test_hyps_TakenAndRetire : State.reset.queue.entries = [] ∧ { delivered.queue with entries := [none] }.entries = [none] ∧
    (State.sound delivered ∧ delivered.queue.entries = some 0 :: [] ∧ (delivered.stack 0).state = .delivered) ∧
    (64 : Byte).toNat = 64 ∧ { delivered.queue with entries := [none, some 0] }.entries.head? ≠ some (some 0) ∧
    ((movingWith (.quarantined .transfer)).inTransferStack 0 = true ∧
      ((movingWith (.quarantined .transfer)).stack 0).state = .quarantined .transfer) ∧
    (falling (.quarantined .transfer) 0).awaitedStack 0 = true ∧
    ((lineWith .tracking .cut someEntry (.quarantined .transfer) 0).inTransferStack 0 = false ∧
      (lineWith .tracking .cut someEntry (.quarantined .transfer) 0).awaitedStack 0 = false) ∧
    ((goodLine.stack 0).state ≠ .delivered ∧ ((goodLine.stack 0).state.code ≠ 7)) ∧
    ((∀ n, some n ∈ delivered.queue.entries → (delivered.stack n).state = .delivered) ∧
      (delivered.queue.entries.filterMap id).Nodup) := by
  refine ⟨?_, ?_, ⟨⟨rfl, rfl, rfl⟩, ?_⟩, ?_⟩ <;> decide +kernel

/-- A record that carries its damage mark, with two bits of its word 3 flipped. -/
theorem test_hyps_RetireOfMarkedRecord :
    (flipped (.stack 0) 3 (lineWith .tracking .cut someEntry (.quarantined .damaged) 0)).pfail = false ∧
    (flipped (.stack 0) 3 (lineWith .tracking .cut someEntry (.quarantined .damaged) 0)).memory.damagedSet = [] ∧
    ((flipped (.stack 0) 3 (lineWith .tracking .cut someEntry (.quarantined .damaged) 0)).stack 0).state =
      .quarantined .damaged ∧
    (flipped (.stack 0) 3 (lineWith .tracking .cut someEntry (.quarantined .damaged) 0)).inTransferStack 0 = false ∧
    (flipped (.stack 0) 3 (lineWith .tracking .cut someEntry (.quarantined .damaged) 0)).awaitedStack 0 = false := by
  decide +kernel

theorem test_hyps_LinesAndPower : State.reset.attention.latched &&& 0xFF00 = 0 ∧ State.reset.pfail = false ∧
    { State.reset with pfail := true }.pfail = true ∧ State.reset.memory.trimToSave = none ∧
    (after .pfailAssert State.reset).memory.trimToSave = some 0 ∧ (after .pfailAssert State.reset).memory.flips = [] ∧
    (after .savedTrimWrite (after .pfailAssert State.reset)).memory.trimToSave = none ∧
    (movingWith .transfer).shuttle.state = .moving 0 0 2000 ∧ (movingWith .transfer).laneSelect = 1 ∧
    State.reset.shuttle.state = .idle ∧ State.reset.laneSelect = 0 := by decide +kernel

/-- The saved trim handed over, and `k` flipped bits in word 15 of the geometry record. -/
def savingWith (k : Nat) : State :=
  { State.reset with
      pfail := true
      memory := { State.reset.memory with
        trimToSave := some 5, flips := (List.range k).map (fun b => ⟨.geometry, 15, b⟩) } }

theorem test_hyps_SavedTrim : (savingWith 2).memory.trimToSave = some 5 ∧
    (readRecord .geometry (savingWith 1)).geometryDamaged = false ∧
    (readRecord .geometry (savingWith 2)).geometryDamaged = true := by decide +kernel

/-- Resets under which PFAIL rises before the scan, at its end and after the last step. -/
theorem test_hyps_ResetsRun : State.clean goodLine ∧ 0 ≤ 97 ∧ 97 ≤ 97 ∧ 974 ≤ 974 ∧ goodLine.pfail = false ∧
    (savingWith 0).pfail = true := by
  refine ⟨rfl, ?_⟩; decide +kernel

/-- Stack record `n` as a reset finds it: SEALED and HELD in lane 1, HELD in lane 2, READY and SEALED in lane 3, SEALED with
nothing landed in lane 4, two DELIVERED records across the wrap of the sequence, the rest FREE. -/
def beforeReset : State :=
  let at' (st : StackState) (lane landed : Nat) : StackRecord := { someStack st with lane := lane, landed := landed }
  { goodLine with memory := { goodLine.memory with stackRecs := vtab (fun n =>
      match n.val with
      | 0 => at' .sealed 1 1
      | 1 => at' .held 1 1
      | 2 => at' .held 2 1
      | 3 => at' .ready 3 1
      | 4 => at' .sealed 3 1
      | 5 => at' .sealed 4 0
      | 6 => { at' .delivered 5 1 with deliverySeq := some 0 }
      | 7 => { at' .delivered 5 1 with deliverySeq := some 0xFFFFFFFF }
      | _ => StackRecord.zero .free) } }

/-- R138, R139, R158, R159: what the reset makes of them; lane 1 wins the grant, and its HELD record is pushed. -/
theorem test_reset_restores_stacks :
    ((beforeReset.resetPart false none).memory.stackRecs.toList.take 8).map (fun r => r.state) =
      [.transfer, .ready, .ready, .ready, .held, .free, .delivered, .delivered] ∧
    (beforeReset.resetPart false none).queue = { entries := [some 7, some 6], nextSeq := 1 } := by
  rw [Laws.resetPart_clean false rfl]
  decide +kernel

theorem test_hyps_ResetRestoresStacks : State.clean beforeReset ∧
    (∀ n : StackNo, (beforeReset.memory.stackRecs[n]).state = .delivered →
      (beforeReset.memory.stackRecs[n]).deliverySeq.isSome = true ∧
      ((beforeReset.memory.stackRecs[n]).deliverySeq.getD 0 - (0xFFFFFFFF : BitVec 32)).toNat < 2147483648) ∧
    ((beforeReset.memory.stackRecs[5]).state = .sealed ∧ (beforeReset.memory.stackRecs[5]).landed = 0) := by
  refine ⟨rfl, ?_⟩; decide +kernel

/-- A line in which the record of lane 1 carries its mark, and so do the geometry record, that of job slot 1 and that of
counter 0; lane 1 has OPEN records in stacks 0 and 1, the first with a label landed. -/
def markedImage : State :=
  { goodLine with memory := { goodLine.memory with
      geometry := { goodLine.memory.geometry with damaged := true }
      jobRecs := vset goodLine.memory.jobRecs 1 (JobRecord.zero .damaged)
      laneRecs := vset goodLine.memory.laneRecs 0 { LaneRecord.blank with damaged := true }
      counterRecs := vset goodLine.memory.counterRecs 0 { CounterConfig.blank with damaged := true }
      stackRecs := vset (vset goodLine.memory.stackRecs 0 { someStack .opened with landed := 1 }) 1 (someStack .opened) } }

theorem test_hyps_ResetSequence : State.clean (movingWith .transfer) ∧
    (movingWith .transfer).memory.stackRecs[0].state = .transfer ∧ State.clean goodLine ∧
    goodLine.memory.stackRecs[0].state = .opened ∧ State.clean markedImage ∧
    (markedImage.memory.geometry.damaged = true ∧ markedImage.memory.jobRecs[1].state = .damaged ∧
      markedImage.memory.laneRecs[0].damaged = true ∧ markedImage.memory.counterRecs[0].damaged = true) ∧
    (markedImage.memory.stackRecs[0].state = .opened ∧ markedImage.memory.stackRecs[0].lane = (0 : Lane).val + 1 ∧
      markedImage.memory.stackRecs[0].landed ≠ 0) ∧
    ((markedImage.memory.laneRecs[1]).damaged = false ∧ (goodLine.memory.laneRecs[0]).enabled = true ∧
      (goodLine.memory.laneRecs[0]).slot = some 0 ∧ (goodLine.memory.jobRecs[0]).state = .active) := by
  refine ⟨rfl, ?_, rfl, ?_, rfl, ?_⟩ <;> decide +kernel

/-- R60, R139, R172, R187: what a reset makes of it: the OPEN record of lane 1 of the lowest number sealed with LANE_OFF,
pushed and granted, the other left OPEN; the defaults; the counter off; RECORD_DAMAGED raised. -/
theorem test_reset_of_marked_image :
    ((markedImage.resetPart false none).memory.stackRecs.toList.take 2).map (fun r => (r.state, r.sealReason)) =
      [(.transfer, some .laneOff), (.opened, none)] ∧
    (markedImage.resetPart false none).outputs = [.go 0, .push 0] ∧
    (markedImage.resetPart false none).work = Settings.default ∧
    (markedImage.resetPart false none).attention.latched = Attention.recordDamaged.set ∧
    (markedImage.resetPart false none).counterOff 0 = true := by
  rw [Laws.resetPart_clean false rfl]
  decide +kernel

/-- One bit flipped in job record 3, two in lane record 2, one in the record of lane 5, which carries its mark. -/
def flippedImage : State :=
  { State.reset with memory := { State.reset.memory with
      laneRecs := vset State.reset.memory.laneRecs 5 { LaneRecord.blank with damaged := true }
      flips := [⟨.job 3, 0, 4⟩, ⟨.lane 2, 1, 0⟩, ⟨.lane 2, 1, 38⟩, ⟨.lane 5, 0, 0⟩] } }

/-- The flipped bits of a word of it. -/
def flipsOf (ref : RecordRef) (w : Nat) : Nat :=
  (flippedImage.memory.flips.filter (fun f => decide (f.ref = ref ∧ f.word = w))).length

theorem flipsOf_eq (ref : RecordRef) (w : Nat) : flipsOf ref w =
    if ref = .lane 2 ∧ w = 1 then 2 else if (ref = .job 3 ∨ ref = .lane 5) ∧ w = 0 then 1 else 0 := by
  have hl : flippedImage.memory.flips = [⟨.job 3, 0, 4⟩, ⟨.lane 2, 1, 0⟩, ⟨.lane 2, 1, 38⟩, ⟨.lane 5, 0, 0⟩] := rfl
  unfold flipsOf
  rw [hl]
  simp only [List.filter_cons, List.filter_nil, decide_eq_true_eq]
  by_cases h2 : ref = .lane 2 ∧ w = 1
  · obtain ⟨rfl, rfl⟩ := h2
    decide
  · by_cases h3 : ref = .job 3 ∧ w = 0
    · obtain ⟨rfl, rfl⟩ := h3
      decide
    · by_cases h5 : ref = .lane 5 ∧ w = 0
      · obtain ⟨rfl, rfl⟩ := h5
        decide
      · simp only [or_and_right, h2, h3, h5, eq_comm (b := ref), eq_comm (b := w), if_false, or_self, List.length_nil]

theorem marked_flippedImage : flippedImage.marked (.lane 2) = false ∧ flippedImage.marked (.job 3) = false ∧
    flippedImage.marked (.lane 5) = true := by
  decide +kernel

/-- The hypotheses on an image with flipped bits: what is found damaged, and which words are corrected. -/
theorem test_hyps_ResetScan : flippedImage.memory.flips.Nodup ∧ [(RecordRef.job 3, 0)].Nodup ∧
    (∀ ref w, flipsOf ref w ≤ 2) ∧
    (∀ ref, decide (ref = .lane 2) = true ↔ flippedImage.marked ref = false ∧ ∃ w, w < ref.words ∧ flipsOf ref w = 2) ∧
    (∀ ref w, (ref, w) ∈ [(RecordRef.job 3, 0)] ↔ flippedImage.marked ref = false ∧ decide (ref = .lane 2) = false ∧
      w < ref.words ∧ flipsOf ref w = 1) := by
  obtain ⟨m2, m3, m5⟩ := marked_flippedImage
  refine ⟨by decide +kernel, by decide, ?_, ?_, ?_⟩
  · intro ref w
    rw [flipsOf_eq]
    split
    · decide
    · split <;> decide
  · intro ref
    rw [decide_eq_true_iff]
    constructor
    · rintro rfl
      exact ⟨m2, 1, by decide, by rw [flipsOf_eq]; decide⟩
    · rintro ⟨-, w, -, h⟩
      rw [flipsOf_eq] at h
      split at h
      · next h' => exact h'.1
      · split at h <;> cases h
  · intro ref w
    rw [List.mem_singleton, Prod.mk.injEq, flipsOf_eq]
    constructor
    · rintro ⟨rfl, rfl⟩
      exact ⟨m3, by decide, by decide, by decide⟩
    · rintro ⟨hm, -, -, h⟩
      split at h
      · cases h
      · split at h
        · next h' =>
          rcases h'.1 with rfl | rfl
          · exact ⟨rfl, h'.2⟩
          · rw [m5] at hm; cases hm
        · cases h
/-- R177, R181, R187, step 1: what the scan leaves of it. -/
theorem test_scan_of_flipped_image :
    (allRecords.foldl (fun t r => scanRecord r t) flippedImage).memory.flips = [⟨.lane 5, 0, 0⟩] ∧
    (allRecords.foldl (fun t r => scanRecord r t) flippedImage).memory.laneRecs[2].damaged = true ∧
    (allRecords.foldl (fun t r => scanRecord r t) flippedImage).memory.corrected = 1 ∧
    (allRecords.foldl (fun t r => scanRecord r t) flippedImage).attention.latched = 0x0060 := by decide +kernel

theorem test_hyps_StatusAndMode : (0x00FF : BitVec 16) &&& 0xFF00 = 0 ∧ (3 : Byte).toNat ≤ 3 ∧
    (0x0100 : BitVec 16) &&& 0xFF00 ≠ 0 ∧ ((2 : Byte) ≠ 0 ∧ (2 : Byte) ≠ 1) ∧ 3 < (4 : Byte).toNat ∧
    (0x0FFF : BitVec 16) &&& 0xF000 = 0 ∧ (0x1000 : BitVec 16) &&& 0xF000 ≠ 0 ∧
    { State.reset.memory.geometry with damaged := true }.damaged = true ∧ State.reset.geometryDamaged = false ∧
    (∀ m, (inMode m).modes.mode = m ∧ (inMode m).pfail = false ∧ State.clean (inMode m) ∧ (inMode m).ring.openCount = 0) ∧
    (decidedLine .tracking).ring.openCount ≠ 0 := by
  refine ⟨?_, ?_, ?_, ?_, ?_, ?_, ?_, ?_, ?_, fun m => ⟨rfl, rfl, rfl, rfl⟩, ?_⟩ <;> decide +kernel

/-- The defaults of R60 as a payload of GEOMETRY WRITE, but for P_nom, D_gate, the capacity and the arbiter code. -/
def geometryPayload (pNom : BitVec 16) (dGate : BitVec 24) (capacity arbiter : BitVec 8) : GeometryPayload :=
  { pNom := pNom, wMark := 600, lossLimit := 3, dDie := 120000, wDie := 2000, oCut := 0, dGate := dGate, lMin := 4000
    lMax := 20000, upstream := 0, lead := 1000, trail := 1000, rRev := 2000, filterShift := 2, gain := 8, slew := 50
    lTrim := 4000, tol := 30, wOut := 400, nSettle := 8, capacity := capacity, watermark := 1, shuttleTimeout := 2000
    jamLimit := 2, arbiter := arbiter, inspection := 0, verdictRate := 2, trimRate := 2, savedTrim := 0 }

/-- The row check at and beyond its limit, 118 × 9,400 = 1,109,200; the capacity at and below the queue. -/
theorem test_hyps_GeometryWrite : (inMode .tracking).modes.mode ≠ .parked ∧
    GeometryPayload.settings (geometryPayload 30000 150000 12 2) = none ∧
    (∃ g, GeometryPayload.settings (geometryPayload 10000 1089200 1 0) = some g ∧ g.inRange = true ∧
      g.dGate + g.lMax ≤ 118 * (g.pNom - g.wMark) ∧ g.capacity = 1) ∧
    (∃ g, GeometryPayload.settings (geometryPayload 10000 1089201 1 0) = some g ∧ 118 * (g.pNom - g.wMark) < g.dGate + g.lMax) ∧
    (∃ g, GeometryPayload.settings (geometryPayload 30000 150000 0 0) = some g ∧ g.inRange = false) ∧
    delivered.queue.entries.length + delivered.shuttle.state.inTransfer = 1 ∧
    1 < { movingWith .transfer with queue := delivered.queue }.queue.entries.length +
      { movingWith .transfer with queue := delivered.queue }.shuttle.state.inTransfer ∧
    State.reset.memory.geometry.damaged = false ∧ State.sound State.reset := by
  refine ⟨by decide, by decide +kernel, ⟨_, rfl, ?_⟩, ⟨_, rfl, ?_⟩, ⟨_, rfl, ?_⟩, ?_, ?_, ?_, ⟨rfl, rfl, rfl⟩⟩ <;>
    decide +kernel

/-- A name of sixteen bytes. -/
def noName : List Byte := List.replicate 16 0

/-- The part with `someJob` in slot 0 in state `st`, and nothing else. -/
def jobPart (st : SlotState) : State := State.reset.setJob 0 { someJob with state := st }

theorem test_hyps_JobWriteAndEnd :
    (State.sound (jobPart .active) ∧ (jobPayload noName).sampleEnable = 0 ∧ (jobPayload noName).slot.toNat = (0 : JobSlot).val ∧
      (jobPayload noName).serialMode.toNat = SerialMode.up.code ∧ JobPayload.inRange (jobPayload noName) = true) ∧
    (∀ st, ((jobPart st).job 0).state = st) ∧
    ((jobPart .active).job 0).jobId = (jobPayload noName).jobId ∧
    (∀ k : JobSlot, k ≠ 0 → ((jobPart .empty).job k).state = .empty) ∧
    (∀ n, ((jobPart .empty).stack n).state ≠ .opened) ∧ (jobPart .damaged).slotReferenced 0 = false ∧
    (goodLineWithJob .active).slotReferenced 0 = true ∧ (goodLineWithJob .ending).slotReferenced 0 = true ∧
    ((goodLine.stack 0).state = .opened ∧ (goodLine.stack 0).slot = 0 ∧ (goodLine.stack 0).jobId = (jobPayload noName).jobId) ∧
    JobPayload.inRange { jobPayload noName with target := 10000 } = false := by
  refine ⟨⟨⟨rfl, rfl, rfl⟩, ?_⟩, ?_, ?_⟩
  · decide +kernel
  · rintro (_ | _ | _ | _) <;> decide +kernel
  · decide +kernel

/-- A payload of LANE WRITE for lane 1. -/
def lanePayload1 (slot enabled origin : BitVec 8) : LanePayload :=
  { lane := 1, enabled := enabled, slot := slot, priority := 0, weight := 1, originPresent := origin, origin := 99999999 }

theorem test_hyps_LaneWriteAndClear :
    ((goodLine.laneRec 0).enabled = true ∧ (goodLine.laneRec 0).slot = some 0 ∧ (goodLine.job 0).state = .active ∧
      goodLine.lanes[0].rowOrigin ≠ .none) ∧
    (rowOriginAfter (lanePayload1 0xFF 0 0) false none none .pending = .none ∧
      rowOriginAfter (lanePayload1 0 1 0) false (some 0) (some 0) .pending = .pending ∧
      rowOriginAfter (lanePayload1 0 1 0) true (some 0) (some 0) .pending = .none) ∧
    (State.sound goodLine ∧ (lanePayload1 0 1 0).lane.toNat = (0 : Lane).val + 1 ∧ (lanePayload1 0xFF 0 1).slot = 0xFF ∧
      LanePayload.inRange (lanePayload1 0xFF 0 1) = true ∧ LanePayload.inRange (lanePayload1 0 1 0) = true) ∧
    (goodLine.runningCondition 0 = true ∧ State.reset.openOf 0 = none ∧
      ((goodLine.setLaneRec 0 LaneRecord.blank).runningCondition 0 = false ∧
        (goodLine.setLaneRec 0 LaneRecord.blank).openOf 0 = some 0)) ∧
    goodLine.lanes[0].run ≠ .jammed ∧
    (State.sound (goodLine.setRun 0 .jammed) ∧ (goodLine.setRun 0 .jammed).lanes[0].run = .jammed ∧
      (goodLine.setRun 0 .jammed).openOf 0 = some 0) ∧
    LanePayload.inRange { lanePayload1 0 1 1 with origin := 100000000 } = false ∧
    ((13 : Byte).toNat = 0 ∨ 12 < (13 : Byte).toNat ∨ 1 < (2 : Byte).toNat) := by
  refine ⟨?_, ?_, ⟨⟨rfl, rfl, rfl⟩, ?_⟩, ?_, ?_, ⟨⟨rfl, rfl, rfl⟩, ?_⟩, ?_⟩ <;> decide +kernel

/-- A payload of COUNTER WRITE for counter 3. -/
def counterPayload (lanes : BitVec 16) : CounterPayload :=
  { counter := 3, laneSet := lanes, mask := 0x7FFF, unit := 0, mode := 0, window := 16, threshold := 1, action := 1 }

theorem test_hyps_StackShuttleAndCounterRequests : State.sound goodLine ∧ State.reset.openOf 0 = none ∧
    goodLine.openOf 0 = some 0 ∧ (12 : Byte).toNat = (11 : Lane).val + 1 ∧ ((13 : Byte).toNat = 0 ∨ 12 < (13 : Byte).toNat) ∧
    ((goodLine.stack 0).state = .opened ∧ (goodLine.stack 0).committed = (1 : BitVec 16).toNat ∧
      (goodLine.stack 0).committed < (9999 : BitVec 16).toNat ∧ 9999 < (10000 : BitVec 16).toNat) ∧
    (State.reset.stack 63).state ≠ .opened ∧ (63 : Byte).toNat = (63 : StackNo).val ∧
    { State.reset.shuttle with state := .faulted }.state = .faulted ∧ State.reset.shuttle.state ≠ .faulted ∧
    ((counterPayload 0x0FFF).counter.toNat = (3 : CounterNo).val ∧ (counterPayload 0x0FFF).laneSet &&& 0xF000 = 0 ∧
      (counterPayload 0x0FFF).mask &&& 0x8000 = 0 ∧ (CounterPayload.config (counterPayload 0x0FFF)).isSome = true) ∧
    (counterPayload 0x1FFF).laneSet &&& 0xF000 ≠ 0 := by
  refine ⟨⟨rfl, rfl, rfl⟩, ?_⟩; decide +kernel

theorem test_hyps_ReadRequests : State.clean goodLine ∧ goodLine.pfail = false ∧ (15 : Byte).toNat = (15 : JobSlot).val ∧
    16 ≤ (16 : Byte).toNat ∧ (12 : Byte).toNat = (11 : Lane).val + 1 ∧ (3 : Byte).toNat = (3 : CounterNo).val ∧
    4 ≤ (4 : Byte).toNat ∧ 64 ≤ (64 : Byte).toNat ∧ 1 < (2 : Byte).toNat ∧
    (goodLine.rowAt (Fin.ofNat 128 (0 : Byte).toNat) = some (someRow .cut someEntry) ∧
      (someRow .cut someEntry).number.setWidth 8 = (0 : Byte)) ∧
    goodLine.rowAt (Fin.ofNat 128 (1 : Byte).toNat) = none ∧ (63 : Byte).toNat ≤ 63 ∧ 63 < (64 : Byte).toNat ∧
    (2 : Byte).toNat ≤ 2 ∧ 2 < (3 : Byte).toNat ∧
    ((someStack .opened).serial.isSome = true ∧ (StackRecord.zero .opened).serial = none) ∧
    ((∀ n : StackNo, indexByte (some n) = byteOf n.val) ∧ indexByte (none : Option StackNo) = 0xFF) := by
  refine ⟨rfl, ?_⟩; decide +kernel

/-- R189, R191: a transfer cut by a reset shifts out the response it met, then 0x00, then as many bytes more. -/
theorem test_cut_transfer :
    (State.edgesAtReset { State.reset with port := .ready [0xA5, 7] } (cutCourse 0)).outputs.length = 2 ∧
    (cutBytes (.ready [0xA5, 7, 9]) 0 ⟨2, 1, 3⟩).take 3 = [0xA5, 7, 0] ∧
    cutBytes (.ready [0xA5, 7]) 0 ⟨2, 1, 3⟩ = [0xA5, 7, 0, 0, 0, 0] ∧
    cutBytes .empty 0 ⟨2, 1, 3⟩ = List.replicate 6 0 := by decide +kernel

/-- R77: a reset lets out the character being sent, and no other of the message. -/
theorem test_cut_trim :
    ((sendingWith 2).edgesAtReset (cutCourse 0)).outputs.getLast? = some (.trim [0x3C] .b460800) ∧
    ((sendingWith 2).edgesAtReset { cutCourse 0 with trimSent := 0, cut := none, begun := [] }).outputs = [] ∧
    ((sendingWith 2).edgesAtReset ResetCourse.quiet).outputs = [.trim (trimBytes someTrim) .b460800] := by decide +kernel

/-- R193: the fields of a COUNTER WRITE payload. -/
theorem test_counterPayload :
    counterPayloadOf [3, 0x0F, 0xFF, 0x7F, 0xFF, 0, 0, 0, 16, 0, 1, 1] = counterPayload 0x0FFF := by decide +kernel

theorem test_hyps_Port : [].head? ≠ some (0x5A : Byte) ∧ [0x5A].head? = some (0x5A : Byte) ∧
    (¬∃ (code : Byte) (p : List Byte), p.length ≤ 60 ∧
      [0x5A] = 0x5A :: code :: byteOf p.length :: (p ++ [crc8 (code :: byteOf p.length :: p)])) ∧
    (List.replicate 60 (0 : Byte)).length ≤ 60 ∧ requestLength 0 = none ∧ requestLength 1 = some 4 ∧
    (∃ frame, ResponseSlot.ready frame = .ready (responseFrame .ok []) ∧ 4 < frame.length + 1) ∧
    (responseFrame .ok []).length ≤ (⟨4, 1, 3⟩ : CutTransfer).before ∧
    State.reset.port = .empty := by
  refine ⟨by decide, by decide, ?_, by decide, by decide, by decide, ⟨_, rfl, by decide +kernel⟩, by decide, rfl⟩
  rintro ⟨code, p, -, h⟩
  simp at h

end Sys2Proof.Tests
end

section
/-! SUPPORT. Web position and row registration: what each command of the position unit does, case by case, and the statements
about them. -/

namespace Sys2Proof.Proofs

open Sys2Proof Sys2Proof.Machine Sys2Proof.Laws

/-! ### The commands of this family -/

theorem exec_encoderTransition (e : EncoderStep) (s : State) :
    exec (.encoderTransition e) s = .next (s.settle.countEncoder e) := rfl
theorem exec_mark (s : State) : exec .mark s = .next s.takeMark := rfl
theorem exec_syntheticMark (s : State) : exec .syntheticMark s = .next s.takeSynthetic := rfl
theorem exec_lossLimit (s : State) : exec .lossLimit s = .next s.lossTest := rfl
theorem exec_riseToTracking (s : State) : exec .riseToTracking s = .next s.riseTest := rfl
theorem exec_reverseEvent (s : State) : exec .reverseEvent s = .next s.takeReverse := rfl
theorem exec_splice (s : State) : exec .splice s = .next s.takeSplice := rfl
theorem exec_spliceZoneExpiry (s : State) : exec .spliceZoneExpiry s = .next s.takeZoneExpiry := rfl
theorem exec_spacingReferenceExpiry (s : State) : exec .spacingReferenceExpiry s = .next s.takeSpacingExpiry := rfl
theorem exec_dieWindowEnd (s : State) : exec .dieWindowEnd s = .next s.takeDieWindowEnd := rfl
theorem exec_gatePoint (s : State) : exec .gatePoint s = .next s.takeGatePoint := rfl
theorem exec_pocket (l : Lane) (s : State) : exec (.pocket l) s = .next (s.takePocket l) := rfl
theorem exec_landingWindowEnd (s : State) : exec .landingWindowEnd s = .next s.takeLandingEnd := rfl
theorem exec_laneJammed (l : Lane) (s : State) : exec (.laneJammed l) s = .next (s.jamTest l) := rfl
theorem exec_modeRun (s : State) : exec .modeRun s = .next ((s.framed 1).request true modeRunRule) := rfl
theorem exec_modePark (s : State) : exec .modePark s = .next ((s.framed 1).request true modeParkRule) := rfl

/-! ### Line modes -/

/-- R160: the four line modes fall into those in which the web is registered and those in which it is not. -/
theorem not_idle_of_running {m : LineMode} (h : m = .seek ∨ m = .tracking) : ¬(m = .parked ∨ m = .draining) := by
  rcases h with rfl | rfl <;> decide

theorem modes_seek {m : ModeController} (h : m.mode = .seek) : { m with mode := .seek } = m := by rw [← h]

/-! ### The web at a threshold (R3) -/

theorem reaches_iff (s : State) (t : Pos) :
    s.reaches t = true ↔ s.position.advanced = true ∧ s.position.highWater = t := by
  simp only [State.reaches, Bool.and_eq_true, beq_iff_eq]

theorem passes_iff (s : State) (t : Pos) :
    s.passes t = true ↔ s.position.advanced = true ∧ s.position.highWater = posAdd t 1 :=
  reaches_iff s _

/-! ### The fall and the rise (R5, R13, R73, R162) -/

/-- R5, R13: a fall with TRACKING_LOST: always from TRACKING, and from SEEK at a reverse event. -/
theorem fall_lost {s : State} {always : Bool}
    (h : s.modes.mode = .tracking ∨ always = true ∧ s.modes.mode = .seek) :
    s.fall always =
      { s with
          register := { s.register with settle := 0 }
          modes := { s.modes with mode := .seek }
          attention := { s.attention with latched := s.attention.latched ||| Attention.trackingLost.set } } := by
  unfold State.fall
  rcases h with h | ⟨ha, h⟩
  · simp only [h, if_true, or_true]
    rfl
  · have hm : s.modes.mode ≠ .tracking := by rw [h]; decide
    simp only [if_neg hm, ha, true_or, if_true, modes_seek h]
    rfl

/-- R13: a fall in SEEK only starts the settle count again. -/
theorem fall_seek {s : State} (h : s.modes.mode = .seek) :
    s.fall false = { s with register := { s.register with settle := 0 } } := by
  have hm : s.modes.mode ≠ .tracking := by rw [h]; decide
  unfold State.fall
  simp only [if_neg hm, Bool.false_eq_true, false_or]
  rfl

theorem lossReached_iff (s : State) :
    s.lossReached = true ↔ s.position.expectation ≠ none ∧ s.work.lossLimit ≤ s.position.consecutiveSynthetic.toNat ∧
      (s.modes.mode = .seek ∨ s.modes.mode = .tracking) := by
  simp only [State.lossReached, Bool.and_eq_true, Bool.or_eq_true, beq_iff_eq, decide_eq_true_eq,
    Option.isSome_iff_ne_none, and_assoc]

/-- R13: at the loss limit the line loses its expectation and falls. -/
theorem lossTest_falls {s : State} (h : s.lossReached = true) : s.lossTest = s.loseSync.fall false := if_pos h

theorem lossTest_stays {s : State}
    (h : s.position.expectation = none ∨ s.position.consecutiveSynthetic.toNat < s.work.lossLimit ∨
      s.modes.mode = .parked ∨ s.modes.mode = .draining) : s.lossTest = s := by
  refine if_neg fun hr => ?_
  obtain ⟨hx, hk, hm⟩ := (lossReached_iff s).mp hr
  rcases h with h | h | h
  · exact hx h
  · omega
  · exact not_idle_of_running hm h

/-- R73, R162: the settle count at N_settle in SEEK makes the line rise. -/
theorem riseTest_rises {s : State} (hm : s.modes.mode = .seek) (hk : s.work.nSettle ≤ s.register.settle) :
    s.riseTest =
      { s with
          modes := { s.modes with mode := .tracking }
          attention := { s.attention with latched := s.attention.latched ||| Attention.modeReached.set } } :=
  if_pos ⟨hm, hk⟩

theorem riseTest_stays {s : State} (h : s.modes.mode ≠ .seek ∨ s.register.settle < s.work.nSettle) : s.riseTest = s := by
  refine if_neg fun ⟨hm, hk⟩ => ?_
  rcases h with h | h
  · exact h hm
  · omega

/-- Settles O17, through what the loss test and the rise test do when they act and when they do not. -/
theorem lossLimitFallsToSeekAndSettleCountRises : Obligations.LossLimitFallsToSeekAndSettleCountRises := by
  refine ⟨fun s => ⟨fun hx hk => ⟨fun hm => ?_, fun hm => ?_⟩, fun h => ?_⟩, fun s => ⟨fun hm hk => ?_, fun h => ?_⟩⟩
  · rw [exec_lossLimit, lossTest_falls ((lossReached_iff s).mpr ⟨hx, hk, .inr hm⟩), fall_lost (s := s.loseSync) (.inl hm)]
    rfl
  · rw [exec_lossLimit, lossTest_falls ((lossReached_iff s).mpr ⟨hx, hk, .inl hm⟩), fall_seek (s := s.loseSync) hm]
    rfl
  · rw [exec_lossLimit, lossTest_stays h]
  · rw [exec_riseToTracking, riseTest_rises hm hk]
  · rw [exec_riseToTracking, riseTest_stays h]

/-! ### Marks (R4, R10, R11, R14, R20) -/

theorem inMarkWindow_iff (s : State) (x p : Pos) :
    inMarkWindow s x p = true ↔ posWithin p (posAdd x (-(s.work.wMark : Int))) (posAdd x s.work.wMark) :=
  decide_eq_true_iff

theorem spacingAllows_iff (s : State) (p : Pos) :
    spacingAllows s p = true ↔
      ∀ m, s.position.spacing = some m → (s.work.pNom : Int) - s.work.wMark ≤ posDiff p m := by
  unfold spacingAllows
  cases s.position.spacing <;> simp

theorem markFate_idle {s : State} (h : s.modes.mode = .parked ∨ s.modes.mode = .draining) : s.markFate = .idle :=
  if_pos h

theorem markFate_back {s : State} (hm : s.modes.mode = .seek ∨ s.modes.mode = .tracking)
    (hb : posBefore s.position.position s.position.highWater) : s.markFate = .back := by
  rw [State.markFate, if_neg (not_idle_of_running hm), if_pos hb]

/-- R11: at high-water and SYNCED, the window of X decides. -/
theorem markFate_synced {s : State} (hm : s.modes.mode = .seek ∨ s.modes.mode = .tracking)
    (hb : ¬posBefore s.position.position s.position.highWater) {x : Pos} (hx : s.position.expectation = some x) :
    s.markFate = if inMarkWindow s x s.position.position then .window else .early := by
  rw [State.markFate, if_neg (not_idle_of_running hm), if_neg hb, hx]

/-- R14: at high-water and UNSYNCED, the spacing reference decides. -/
theorem markFate_unsynced {s : State} (hm : s.modes.mode = .seek ∨ s.modes.mode = .tracking)
    (hb : ¬posBefore s.position.position s.position.highWater) (hx : s.position.expectation = none) :
    s.markFate = if spacingAllows s s.position.position then .acquisition else .early := by
  rw [State.markFate, if_neg (not_idle_of_running hm), if_neg hb, hx]

theorem takeMark_idle {s : State} (h : s.markFate = .idle) :
    s.takeMark = { s with position := { s.position with idleMarks := satInc s.position.idleMarks } } := by
  rw [State.takeMark, h]; rfl

theorem takeMark_back {s : State} (h : s.markFate = .back) :
    s.takeMark = { s with position := { s.position with backMarks := satInc s.position.backMarks } } := by
  rw [State.takeMark, h]; rfl

theorem takeMark_early {s : State} (h : s.markFate = .early) :
    s.takeMark = { s with position := { s.position with earlyMarks := satInc s.position.earlyMarks } } := by
  rw [State.takeMark, h]; rfl

theorem takeMark_window {s : State} (h : s.markFate = .window) :
    s.takeMark = s.acceptMark .window s.position.position := by
  rw [State.takeMark, h]

theorem takeMark_acquisition {s : State} (h : s.markFate = .acquisition) :
    s.takeMark = s.acceptMark .acquisition s.position.position := by
  rw [State.takeMark, h]

/-- R11, R14, R16: on a clean image an accepted mark opens its row and sets X one repeat on. -/
theorem acceptMark_clean {s : State} (hc : s.clean) (how : Opening) (p : Pos) :
    s.acceptMark how p =
      State.withRowOpened
        { s with position := { s.position with
            consecutiveSynthetic := 0, expectation := some (posAdd p s.work.pNom) } } how p :=
  openRow_clean _ how p hc

/-- Settles O12, by the fate of the mark, in the order of R20's checks. -/
theorem markNotAcceptedIncrementsOneCount : Obligations.MarkNotAcceptedIncrementsOneCount := by
  intro s
  refine ⟨fun hm => ?idle, fun hm hb => ?back, fun hm hb x hx hw => ?outside, fun hm hb hx m hs hd => ?close⟩
  case idle => rw [exec_mark, takeMark_idle (markFate_idle hm)]
  case back => rw [exec_mark, takeMark_back (markFate_back hm hb)]
  case outside =>
    rw [exec_mark, takeMark_early]
    rw [markFate_synced hm hb hx, if_neg (mt (inMarkWindow_iff s x _).mp hw)]
  case close =>
    have hn : ¬spacingAllows s s.position.position = true := fun ha => by
      have := (spacingAllows_iff s _).mp ha m hs
      omega
    rw [exec_mark, takeMark_early]
    rw [markFate_unsynced (.inl hm) hb hx, if_neg hn]

/-- Settles O13, by the fate of the mark and what an opening leaves of a clean image. -/
theorem acceptedMarkOpensRowAndResyncs : Obligations.AcceptedMarkOpensRowAndResyncs := by
  intro s hc hb
  refine ⟨fun hm x hx hw => ?window, fun hm hx hs => ?acquisition⟩
  case window =>
    rw [exec_mark, takeMark_window, acceptMark_clean hc]
    rw [markFate_synced hm hb hx, if_pos ((inMarkWindow_iff s x _).mpr hw)]
  case acquisition =>
    rw [exec_mark, takeMark_acquisition, acceptMark_clean hc]
    rw [markFate_unsynced (.inl hm) hb hx, if_pos ((spacingAllows_iff s _).mpr hs)]

/-! ### Opening a row (R16, R17, R23 to R25) -/

/-- R24: the slot of the row opened holds the new record with its lanes' entries. -/
theorem withRowOpened_rowAt (s : State) (how : Opening) (m : Pos) :
    (s.withRowOpened how m).rowAt (ringSlot s.ring.next) =
      some { newRow s how m with lanes := vtab (fun l => (laneOpening s s.ring.next l).1) } :=
  vset_get_same _ _ _

/-- R23: the other slots keep their records. -/
theorem withRowOpened_rowAt_ne (s : State) (how : Opening) (m : Pos) {i : RingSlot} (h : i ≠ ringSlot s.ring.next) :
    (s.withRowOpened how m).rowAt i = s.rowAt i :=
  vset_get_ne _ _ h.symm

/-- Settles O14, by reading the fields of the state that an opening leaves of a clean image. -/
theorem openedRowTakesNextNumberAndSlot : Obligations.OpenedRowTakesNextNumberAndSlot := by
  intro s how m hc
  rw [openRow_clean s how m hc]
  refine ⟨rfl, rfl, ⟨_, withRowOpened_rowAt s how m, rfl, rfl, rfl, rfl, rfl, rfl, rfl, ?flags⟩,
    fun i hi => withRowOpened_rowAt_ne s how m hi, rfl, rfl, rfl, rfl, rfl, rfl, rfl, rfl, rfl, rfl, rfl⟩
  have hz : overlapsZone s m = fun z => decide (posBefore z.1 (posAdd m s.work.pNom) ∧ posBefore m z.2) := by
    funext z
    simp only [overlapsZone, Bool.decide_and]
  simp only [newRow, hz]

/-! ### Synthetic marks (R12, R13) -/

theorem dueSynthetic_some {s : State} {x : Pos} (hm : s.modes.mode = .seek ∨ s.modes.mode = .tracking)
    (hx : s.position.expectation = some x) (ha : s.position.advanced = true)
    (hw : s.position.highWater = posAdd (posAdd x s.work.wMark) 1) : s.dueSynthetic = some x := by
  rw [State.dueSynthetic, if_pos hm, hx]
  exact if_pos ((passes_iff s _).mpr ⟨ha, hw⟩)

theorem dueSynthetic_none {s : State}
    (h : s.modes.mode = .parked ∨ s.modes.mode = .draining ∨ s.position.expectation = none ∨ s.position.advanced = false ∨
      ∃ x, s.position.expectation = some x ∧ s.position.highWater ≠ posAdd (posAdd x s.work.wMark) 1) :
    s.dueSynthetic = none := by
  unfold State.dueSynthetic
  split
  · next hm =>
    cases hx : s.position.expectation with
    | none => rfl
    | some x =>
      refine if_neg fun hp => ?_
      obtain ⟨ha, hw⟩ := (passes_iff s _).mp hp
      rcases h with h | h | h | h | ⟨y, hy, hn⟩
      · exact not_idle_of_running hm (.inl h)
      · exact not_idle_of_running hm (.inr h)
      · rw [hx] at h; cases h
      · rw [ha] at h; cases h
      · rw [hx] at hy; cases hy; exact hn hw
  · rfl

/-- Settles O16, by whether the synthetic-mark point is due. -/
theorem syntheticMarkOpensRowAtExpectation : Obligations.SyntheticMarkOpensRowAtExpectation := by
  refine ⟨fun s x hc hm hx ha hw => ?_, fun s h => ?_⟩
  · rw [exec_syntheticMark, State.takeSynthetic, dueSynthetic_some hm hx ha hw]
    dsimp only
    rw [openRow_clean _ _ _ (by exact hc)]
    rfl
  · rw [exec_syntheticMark, State.takeSynthetic, dueSynthetic_none h]

/-! ### The reverse event (R5) -/

/-- R5, R7: a slot after the rows that are not DECIDED were changed. -/
theorem rowAt_mapUndecided (s : State) (f : RowRecord → RowRecord) (i : RingSlot) :
    (s.mapUndecided f).rowAt i = (s.rowAt i).map (fun r => if r.phase = .opened ∨ r.phase = .cut then f r else r) :=
  vtab_get _ i

theorem dueReverse_iff (s : State) :
    s.dueReverse = true ↔ s.position.reverseDue = true ∧ (s.modes.mode = .seek ∨ s.modes.mode = .tracking) := by
  simp only [State.dueReverse, Bool.and_eq_true, Bool.or_eq_true, beq_iff_eq]

/-- R5: what the reverse event does. -/
theorem takeReverse_due {s : State} (hd : s.position.reverseDue = true)
    (hm : s.modes.mode = .seek ∨ s.modes.mode = .tracking) :
    s.takeReverse =
      { s with
          ring := (s.mapUndecided RowRecord.flagReverse).ring
          position := { s.position with
            reverseArm := false, reverseDue := false, reverses := satInc s.position.reverses, expectation := none }
          register := { s.register with settle := 0 }
          modes := { s.modes with mode := .seek }
          attention := { s.attention with latched := s.attention.latched ||| Attention.trackingLost.set } } := by
  rw [State.takeReverse, if_pos ((dueReverse_iff s).mpr ⟨hd, hm⟩), fall_lost]
  · rfl
  · exact hm.symm.imp id fun h => ⟨rfl, h⟩

theorem takeReverse_stays {s : State}
    (h : s.position.reverseDue = false ∨ s.modes.mode = .parked ∨ s.modes.mode = .draining) : s.takeReverse = s := by
  refine if_neg fun hr => ?_
  obtain ⟨hd, hm⟩ := (dueReverse_iff s).mp hr
  rcases h with h | h
  · rw [hd] at h; cases h
  · exact not_idle_of_running hm h

/-- Settles O18, by whether the event is due, slot by slot of the ring. -/
theorem reverseEventFlagsUndecidedRows : Obligations.ReverseEventFlagsUndecidedRows := by
  refine fun s => ⟨fun hd hm => ⟨_, exec_reverseEvent s, ?_⟩, fun h => ?_⟩
  · have hrow : ∀ i, s.takeReverse.rowAt i = (s.mapUndecided RowRecord.flagReverse).rowAt i := fun i => by
      rw [takeReverse_due hd hm]; rfl
    refine ⟨fun i r hr => ?_, fun i hr => ?_, ?_⟩
    · rw [hrow, rowAt_mapUndecided, hr]; rfl
    · rw [hrow, rowAt_mapUndecided, hr]; rfl
    · rw [takeReverse_due hd hm]; rfl
  · rw [exec_reverseEvent, takeReverse_stays h]

/-! ### Splice zones (R6 to R8) and the spacing reference (R15) -/

/-- R6: the zone after a splice is the span alone, or the zone widened by it. -/
theorem zoneAfterSplice_eq {s : State} {a b : Pos}
    (ha : a = posAdd (posAdd s.position.position s.work.upstream) (-(s.work.lead : Int)))
    (hb : b = posAdd (posAdd s.position.position s.work.upstream) s.work.trail) {zone : Pos × Pos}
    (hnone : s.position.zone = none → zone = (a, b))
    (hsome : ∀ z, s.position.zone = some z →
      zone = (if posBefore a z.1 then a else z.1, if posPast b z.2 then b else z.2)) : s.zoneAfterSplice = zone := by
  subst ha hb
  unfold State.zoneAfterSplice
  cases hz : s.position.zone with
  | none => exact (hnone hz).symm
  | some z => exact (hsome z hz).symm

/-- R7: the flag of one row whose repeat may overlap the zone. -/
theorem flagSplice_eq (s : State) (zone : Pos × Pos) (r : RowRecord) :
    flagSplice s zone r =
      if posBefore zone.1 (posAdd r.mark s.work.pNom) ∧ posBefore r.mark zone.2 then
        { r with flags := { r.flags with splice := true } }
      else r := by
  simp only [flagSplice, overlapsZone, Bool.and_eq_true, decide_eq_true_eq]

theorem dueZone_iff (s : State) :
    s.dueZone = true ↔ ∃ a b, s.position.zone = some (a, b) ∧ s.position.advanced = true ∧
      s.position.highWater = posAdd b 1073741824 := by
  simp only [State.dueZone, Option.any_eq_true, reaches_iff, expiryDistance, Prod.exists]

theorem dueSpacing_iff (s : State) :
    s.dueSpacing = true ↔ ∃ m, s.position.spacing = some m ∧ s.position.advanced = true ∧
      s.position.highWater = posAdd m 1073741824 := by
  simp only [State.dueSpacing, Option.any_eq_true, reaches_iff, expiryDistance]

/-- Settles O19, slot by slot of the ring for the splice, and by whether each expiry is due. -/
theorem spliceFormsOrWidensZoneUntilExpiry : Obligations.SpliceFormsOrWidensZoneUntilExpiry := by
  refine ⟨fun s a b ha hb zone hnone hsome => ⟨_, exec_splice s, ?_⟩, fun s => ⟨fun a b hz ha hw => ?_, fun h => ?_,
    fun m hm ha hw => ?_, fun h => ?_⟩⟩
  · have hz := zoneAfterSplice_eq ha hb hnone hsome
    have hrow : ∀ i, s.takeSplice.rowAt i = (s.mapUndecided (flagSplice s zone)).rowAt i := fun i => by
      rw [State.takeSplice, hz]; rfl
    refine ⟨fun i r hr => ?_, fun i hr => ?_, ?_⟩
    · rw [hrow, rowAt_mapUndecided, hr, Option.map_some]
      by_cases hp : r.phase = .opened ∨ r.phase = .cut
      · simp only [hp, if_true, true_and, flagSplice_eq]
      · simp only [hp, if_false, false_and]
    · rw [hrow, rowAt_mapUndecided, hr]; rfl
    · rw [State.takeSplice, hz]; rfl
  · rw [exec_spliceZoneExpiry, State.takeZoneExpiry, if_pos ((dueZone_iff s).mpr ⟨a, b, hz, ha, hw⟩)]
    rfl
  · rw [exec_spliceZoneExpiry, State.takeZoneExpiry, if_neg]
    intro hd
    obtain ⟨a, b, hz, ha, hw⟩ := (dueZone_iff s).mp hd
    rcases h with h | h
    · rw [ha] at h; cases h
    · exact h a b hz hw
  · rw [exec_spacingReferenceExpiry, State.takeSpacingExpiry, if_pos ((dueSpacing_iff s).mpr ⟨m, hm, ha, hw⟩)]
    rfl
  · rw [exec_spacingReferenceExpiry, State.takeSpacingExpiry, if_neg]
    intro hd
    obtain ⟨m, hm, ha, hw⟩ := (dueSpacing_iff s).mp hd
    rcases h with h | h
    · rw [ha] at h; cases h
    · exact h m hm hw

end Sys2Proof.Proofs
end

section
/-! SUPPORT. The queue of commands, the events due at a count, the encoder, and the state after reset. -/

namespace Sys2Proof.Proofs

open Sys2Proof Sys2Proof.Machine Sys2Proof.Laws

/-! ### Events due, one after the other (R3) -/

theorem takeOneDue_none {s : State} (h : s.dueEvents = []) : s.takeOneDue = s := by
  rw [State.takeOneDue, h]

theorem takeOneDue_one {s : State} {d : DueEvent} (h : s.dueEvents = [d]) : s.takeOneDue = d.take s := by
  rw [State.takeOneDue, h]

/-- R3, log entry 3: of several events due one is taken, and the count of free values advances. -/
theorem takeOneDue_several {s : State} (h : 2 ≤ s.dueEvents.length) :
    ∃ d ∈ s.dueEvents, s.takeOneDue = d.take { s with freeCount := s.freeCount + 1 } := by
  unfold State.takeOneDue
  match hl : s.dueEvents with
  | [] => simp [hl] at h
  | [_] => simp [hl] at h
  | d :: e :: es =>
    have hk : Config.orderChoice s.freeCount % (d :: e :: es).length < (d :: e :: es).length :=
      Nat.mod_lt _ (by simp)
    have hget : (d :: e :: es).getD (Config.orderChoice s.freeCount % (d :: e :: es).length) d =
        (d :: e :: es)[Config.orderChoice s.freeCount % (d :: e :: es).length] := by
      rw [List.getD_eq_getElem?_getD, List.getElem?_eq_getElem hk, Option.getD_some]
    exact ⟨_, hget ▸ List.getElem_mem hk, rfl⟩

theorem takeDueTimes_none (k : Nat) {s : State} (h : s.dueEvents = []) : takeDueTimes k s = s := by
  induction k with
  | zero => rfl
  | succ k ih => rw [takeDueTimes, takeOneDue_none h, ih]

theorem settleFuel_none (k : Nat) {s : State} (h : s.dueEvents = []) : settleFuel k s = s := by
  cases k with
  | zero => rfl
  | succ k => rw [settleFuel, h]; rfl

/-- Settling takes the events due until none is left: enough fuel, and it does what taking them `k` times does. -/
theorem settleFuel_eq_takeDueTimes {fuel k : Nat} {s : State} (hk : k ≤ fuel) (h : (takeDueTimes k s).dueEvents = []) :
    settleFuel fuel s = takeDueTimes k s := by
  induction fuel generalizing k s with
  | zero =>
    obtain rfl : k = 0 := by omega
    rfl
  | succ fuel ih =>
    by_cases hs : s.dueEvents = []
    · rw [settleFuel_none _ hs, takeDueTimes_none k hs]
    · match k with
      | 0 => exact absurd h hs
      | k + 1 =>
        rw [settleFuel, if_neg (by simpa using hs)]
        exact ih (by omega) h

theorem settle_none {s : State} (h : s.dueEvents = []) : s.settle = s := settleFuel_none 512 h

/-- R3, R5: the command of an event due does what taking the event does. In PARKED, where no gate point is due, GATE_POINT
does nothing. -/
theorem exec_command (d : DueEvent) (s : State) : exec d.command s = .next (d.take s) := by
  cases d <;> rfl

/-! ### The encoder (R1, R3, R5) -/

theorem reverseHolds_iff (s : State) :
    s.reverseHolds = true ↔ s.position.reverseArm = true ∧ (s.modes.mode = .seek ∨ s.modes.mode = .tracking) ∧
      (s.work.rRev : Int) < posDiff s.position.highWater s.position.position := by
  simp only [State.reverseHolds, Bool.and_eq_true, Bool.or_eq_true, beq_iff_eq, decide_eq_true_eq, and_assoc]

/-- R5: the three conditions, as the check after a count finds them in the position unit `u`. -/
theorem reverseHolds_setPosition (s : State) (u : PositionUnit) :
    (s.setPosition u).reverseHolds =
      decide (u.reverseArm = true ∧ (s.modes.mode = .seek ∨ s.modes.mode = .tracking) ∧
        (s.work.rRev : Int) < posDiff u.highWater u.position) := by
  rw [Bool.eq_iff_iff, reverseHolds_iff, decide_eq_true_iff]
  rfl

theorem countUp_past {u : PositionUnit} (h : posPast (u.position + 1) u.highWater) :
    u.countUp =
      { u with position := u.position + 1, highWater := u.position + 1, reverseArm := true, advanced := true } := if_pos h

theorem countUp_behind {u : PositionUnit} (h : ¬posPast (u.position + 1) u.highWater) :
    u.countUp = { u with position := u.position + 1, advanced := false } := if_neg h

theorem posDiff_self (p : Pos) : posDiff p p = 0 := by simp [posDiff]

theorem countEncoder_forward (s : State) :
    s.countEncoder .forward = s.setPosition { s.position.countUp with
      reverseDue := (s.setPosition s.position.countUp).reverseHolds } := rfl

theorem countEncoder_backward (s : State) :
    s.countEncoder .backward = s.setPosition { s.position.countDown with
      reverseDue := (s.setPosition s.position.countDown).reverseHolds } := rfl

theorem encoderTransition_settled {s : State} (h : s.dueEvents = []) (e : EncoderStep) :
    exec (.encoderTransition e) s = .next (s.countEncoder e) := by
  rw [exec_encoderTransition, settle_none h]

/-- R5: no reverse event is found at high-water. -/
theorem not_reverseHolds_at_highWater {s : State} (h : s.position.highWater = s.position.position) :
    s.reverseHolds = false := by
  rw [Bool.eq_false_iff]
  intro hr
  obtain ⟨-, -, hlt⟩ := (reverseHolds_iff s).mp hr
  rw [h, posDiff_self] at hlt
  omega

/-- Settles O11, by the direction of the transition, and by induction on the fuel for the events due before it. -/
theorem encoderTransitionCountsAndMovesHighWater : Obligations.EncoderTransitionCountsAndMovesHighWater := by
  refine ⟨fun s h => ⟨fun hp => ?past, fun hp => ?behind, ?backward, ?invalid⟩, fun s e k hk h => ?settled,
    fun s d h => ?one, fun s h => ?several⟩
  case past =>
    rw [encoderTransition_settled h, countEncoder_forward, countUp_past hp, not_reverseHolds_at_highWater (by rfl)]
    rfl
  case behind =>
    rw [encoderTransition_settled h, countEncoder_forward, countUp_behind hp, reverseHolds_setPosition]
    rfl
  case backward =>
    rw [encoderTransition_settled h, countEncoder_backward, reverseHolds_setPosition]
    rfl
  case invalid => rw [encoderTransition_settled h]; rfl
  case settled =>
    rw [encoderTransition_settled h, exec_encoderTransition, State.settle, settleFuel_eq_takeDueTimes hk h]
  case one => rw [exec_command, takeOneDue_one h]
  case several =>
    obtain ⟨d, hd, he⟩ := takeOneDue_several h
    exact ⟨d, hd, by rw [exec_command, he]⟩

/-! ### A step (log entries 1, 2 and 21) -/

theorem step_command {s : State} {c : Instr} {rest : List Instr} (h : s.pending = c :: rest) :
    step s = exec c { s with pending := rest } := by
  rw [step, h]

theorem step_idle {s : State} (h : s.pending = []) : step s = .next s.idle := by
  rw [step, h]

theorem writeSavedTrim_none {s : State} (h : s.memory.trimToSave = none) : s.writeSavedTrim = s := by
  rw [State.writeSavedTrim, h]

/-- Settles O1, by the front of the queue. -/
theorem stepRunsFrontCommandOrIdles : Obligations.StepRunsFrontCommandOrIdles :=
  ⟨fun _ _ _ h => step_command h, fun s hp hd ht => by
    rw [step_idle hp, State.idle, settle_none hd, writeSavedTrim_none ht]⟩

/-! ### The state after reset (log entry 8) -/

/-- R160: PARKED with target PARK, and UNSYNCED. -/
theorem reset_modesAgree : State.reset.modesAgree := by
  unfold State.modesAgree
  decide

/-- R59, R77, R184: the settle count, the queues and the scrub position are empty or 0. -/
theorem reset_inRanges : State.reset.inRanges where
  f16 := by decide
  settle := by decide
  waiting := by decide
  sending _ := rfl
  kept := by decide
  scrub := by decide

theorem reset_stackRec (n : StackNo) : State.reset.memory.stackRecs[n] = StackRecord.zero .free :=
  Vector.getElem_replicate n.isLt

/-- R149, R159: the queue is empty, and every stack record of the image is FREE. -/
theorem reset_queueMirrors : State.reset.queueMirrors where
  clean := rfl
  damaged := rfl
  delivered n := by
    rw [reset_stackRec]
    simp [State.reset, StackRecord.zero]
  once := List.nodup_nil
  capacity := by decide
  working _ := rfl

/-- Settles O6, invariant by invariant. -/
theorem invariantsHoldAfterReset : Obligations.InvariantsHoldAfterReset :=
  ⟨reset_modesAgree, reset_inRanges, reset_queueMirrors⟩

end Sys2Proof.Proofs
end

section
/-! SUPPORT. What the thresholds of a row do (die window end, gate point, landing window end) and what a pocket pulse does
that no landing window holds. -/

namespace Sys2Proof.Proofs

open Sys2Proof Sys2Proof.Machine Sys2Proof.Laws

theorem firstOpen_rowAt {s : State} {p : RowRecord → Prop} {i : RingSlot} {r : RowRecord} (h : s.firstOpen p i r) :
    s.rowAt i = some r := by
  obtain ⟨-, -, -, hr, -⟩ := h
  exact hr

/-! ### The die window end (R66, R69, R70) -/

/-- R66, R70: a missed cut: the row's flags and phase, the count, and the trim message with T as it stands. -/
theorem missCut_eq (s : State) (i : RingSlot) (r : RowRecord) :
    s.missCut i r =
      State.queueTrim
        { s with
            ring := { s.ring with
              slots := vset s.ring.slots i
                (some { r with phase := .cut, flags := { r.flags with miscut := true, trimHeld := true } }) }
            register := { s.register with missedCuts := satInc s.register.missedCuts } }
        { tag := r.number.setWidth 8, trim := s.register.trim, held := true, limit := r.flags.trimLimit,
          misreg := r.flags.misreg, miscut := true, settling := r.flags.settling } := rfl

/-- R3, R66, log entry 4: the test by which the die window end passed is found. -/
theorem dieWindowEnd_test (s : State) (q : RowRecord) :
    (q.phase == .opened && s.passes (dieWindowEndOf s q) && s.position.highWater != q.mark) = true ↔
      q.phase = .opened ∧ s.position.advanced = true ∧ s.position.highWater ≠ q.mark ∧
        s.position.highWater = posAdd (posAdd q.expected s.work.wDie) 1 := by
  simp only [Bool.and_eq_true, beq_iff_eq, bne_iff_ne, passes_iff, dieWindowEndOf]
  constructor
  · rintro ⟨⟨hp, ha, hw⟩, hm⟩
    exact ⟨hp, ha, hm, hw⟩
  · rintro ⟨hp, ha, hm, hw⟩
    exact ⟨⟨hp, ha, hw⟩, hm⟩

/-- Settles O22, by the search for the oldest row whose window end is passed. -/
theorem dieWindowEndMissesTheCut : Obligations.DieWindowEndMissesTheCut := by
  refine ⟨fun s i r h => ?_, fun s h => ?_⟩
  · rw [exec_dieWindowEnd, State.takeDieWindowEnd, State.dueDieWindow, findOpen_first (dieWindowEnd_test s) h]
    simp only [firstOpen_rowAt h, missCut_eq]
  · rw [exec_dieWindowEnd, State.takeDieWindowEnd, State.dueDieWindow, findOpen_none (dieWindowEnd_test s) h]

/-! ### The gate point (R30, R31, R78, R86) -/

theorem gatePoint_test (s : State) (q : RowRecord) :
    ((q.phase == .opened || q.phase == .cut) && s.reaches (gatePointOf s q)) = true ↔
      (q.phase = .opened ∨ q.phase = .cut) ∧ s.position.advanced = true ∧
        s.position.highWater = posAdd q.mark s.work.dGate := by
  simp only [Bool.and_eq_true, Bool.or_eq_true, beq_iff_eq, reaches_iff, gatePointOf]

theorem takeGatePoint_first {s : State} {i : RingSlot} {r : RowRecord} (hm : s.modes.mode ≠ .parked)
    (h : s.firstOpen (fun q => (q.phase = .opened ∨ q.phase = .cut) ∧ s.position.advanced = true ∧
      s.position.highWater = posAdd q.mark s.work.dGate) i r) : s.takeGatePoint = s.decideRow i := by
  rw [State.takeGatePoint, if_neg hm, State.dueGate, findOpen_first (gatePoint_test s) h]

theorem takeGatePoint_stays {s : State} (h : s.modes.mode = .parked ∨
    s.noOpen (fun q => (q.phase = .opened ∨ q.phase = .cut) ∧ s.position.advanced = true ∧
      s.position.highWater = posAdd q.mark s.work.dGate)) : s.takeGatePoint = s := by
  unfold State.takeGatePoint
  split
  · rfl
  · next hm => rw [State.dueGate, findOpen_none (gatePoint_test s) (h.resolve_left hm)]

/-- R78: the decision of a row whose die resolution stands. -/
theorem decideRow_cut {s : State} {i : RingSlot} {r : RowRecord} (hr : s.rowAt i = some r) (h : r.phase = .cut) :
    s.decideRow i = ((List.finRange 12).foldl (State.decideLane i) s).closeDecision i := by
  have hn : r.phase ≠ .opened := by rw [h]; decide
  rw [State.decideRow, hr]
  simp only [if_neg hn]

/-- R30, R78: the decision of a row that is still OPEN: its cut is missed first. -/
theorem decideRow_opened {s : State} {i : RingSlot} {r : RowRecord} (hr : s.rowAt i = some r) (h : r.phase = .opened) :
    s.decideRow i = ((List.finRange 12).foldl (State.decideLane i) (s.missCut i r)).closeDecision i := by
  rw [State.decideRow, hr]
  simp only [if_pos h]

/-- R86, R97: the gate settings follow a row's dispositions, and are left at WASTE under PFAIL. -/
theorem setGates_eq (s : State) (r : RowRecord) :
    s.setGates r =
      { s with lanes := if s.pfail then s.lanes
               else vtab (fun l => { s.lanes[l] with gate := r.lanes[l].disposition.gate }) } := by
  unfold State.setGates
  split <;> rfl

/-- R31, R78, R86: what follows the dispositions of a row. -/
theorem closeDecision_eq {s : State} {i : RingSlot} {r : RowRecord} (hr : s.rowAt i = some r) :
    s.closeDecision i =
      ((List.finRange 4).foldl (State.evaluateCounter { r with phase := .decided })
        { s with
            ring := { s.ring with slots := vset s.ring.slots i (some { r with phase := .decided }) }
            lanes := if s.pfail then s.lanes
              else vtab (fun l => { s.lanes[l] with gate := r.lanes[l].disposition.gate }) }).retireRows := by
  rw [State.closeDecision, hr]
  dsimp only
  rw [setGates_eq]
  rfl

/-- Settles O29, by the search for the oldest row reached, and the phase it is in. -/
theorem gatePointDecidesTheRowReached : Obligations.GatePointDecidesTheRowReached := by
  refine ⟨fun s h => ?stays, fun s i r hm h => ⟨fun hp => ?cut, fun hp => ?opened⟩, fun s i r hr => closeDecision_eq hr⟩
  case stays => rw [exec_gatePoint, takeGatePoint_stays h]
  case cut => rw [exec_gatePoint, takeGatePoint_first hm h, decideRow_cut (firstOpen_rowAt h) hp]
  case opened => rw [exec_gatePoint, takeGatePoint_first hm h, decideRow_opened (firstOpen_rowAt h) hp, missCut_eq]

/-! ### Pocket pulses that no window holds (R92, R94) -/

theorem landingWindowHas_iff (s : State) (l : Lane) (p : Pos) (q : RowRecord) :
    s.landingWindowHas l p q = true ↔
      q.lanes[l].landing = .awaiting ∧
        posWithin p (posAdd (posAdd q.mark s.work.dGate) s.work.lMin)
          (posAdd (posAdd q.mark s.work.dGate) s.work.lMax) := by
  rw [State.landingWindowHas, Bool.and_eq_true, beq_iff_eq, decide_eq_true_iff]
  rfl

theorem takePocket_back {s : State} (l : Lane) (h : posBefore s.position.position s.position.highWater) :
    s.takePocket l = { s with backLandings := satInc s.backLandings } := if_pos h

theorem takePocket_stray {s : State} {l : Lane} (hb : ¬posBefore s.position.position s.position.highWater)
    (h : s.noOpen (fun q => q.lanes[l].landing = .awaiting ∧
      posWithin s.position.position (posAdd (posAdd q.mark s.work.dGate) s.work.lMin)
        (posAdd (posAdd q.mark s.work.dGate) s.work.lMax))) : s.takePocket l = s.strayLanding l := by
  rw [State.takePocket, if_neg hb, findOpen_none (landingWindowHas_iff s l _) h]

/-- R94: the label of the oldest AWAITING row names the record, where it was stacked. -/
theorem strayTarget_awaiting {s : State} {l : Lane} {i : RingSlot} {r : RowRecord} {n : StackNo}
    (h : s.firstOpen (fun q => q.lanes[l].landing = .awaiting) i r) (hd : r.lanes[l].disposition = .stack n) :
    s.strayTarget l = some n := by
  rw [State.strayTarget, State.oldestAwaiting, findOpen_first (fun q => beq_iff_eq) h]
  simp only [firstOpen_rowAt h, Option.bind_some, hd]

/-- R94: with no AWAITING row the lane's OPEN record is named. -/
theorem strayTarget_open {s : State} {l : Lane} (h : s.noOpen (fun q => q.lanes[l].landing = .awaiting)) :
    s.strayTarget l = s.openOf l := by
  rw [State.strayTarget, State.oldestAwaiting, findOpen_none (fun q => beq_iff_eq) h]

theorem strayTarget_setLane (s : State) (l k : Lane) (u : LaneUnit) :
    (s.setLane k u).strayTarget l = s.strayTarget l := rfl

/-- R94: on a clean image a QUARANTINED record is not marked. -/
theorem markStray_quarantined {s : State} (hc : s.clean) {n : StackNo} {c : QuarantineCause}
    (h : (s.stack n).state = .quarantined c) : s.markStray n = s := by
  rw [State.markStray, readRecord_clean _ s hc]
  simp only [h]

/-- R94, R123: on a clean image any other record takes the stray and SUSPECT. -/
theorem markStray_live {s : State} (hc : s.clean) {n : StackNo} (h : ∀ c, (s.stack n).state ≠ .quarantined c) :
    s.markStray n =
      s.setStack n
        { s.stack n with
            stray := satInc (s.stack n).stray, flags := { (s.stack n).flags with suspect := true } } := by
  rw [State.markStray, readRecord_clean _ s hc]
  dsimp only
  split
  · next c hq => exact absurd hq (h c)
  · rfl

/-- R94, R97: a stray is counted on the lane, and marked on its record while PFAIL is negated. -/
theorem strayLanding_power {s : State} (l : Lane) (h : s.pfail = true) :
    s.strayLanding l = s.setLane l { s.lanes[l] with stray := satInc s.lanes[l].stray } := if_pos h

theorem strayLanding_none {s : State} {l : Lane} (hp : s.pfail = false) (h : s.strayTarget l = none) :
    s.strayLanding l = s.setLane l { s.lanes[l] with stray := satInc s.lanes[l].stray } := by
  simp only [State.strayLanding, setLane_pfail, hp, strayTarget_setLane, h, Bool.false_eq_true, if_false]

theorem strayLanding_some {s : State} {l : Lane} {n : StackNo} (hp : s.pfail = false) (h : s.strayTarget l = some n) :
    s.strayLanding l = (s.setLane l { s.lanes[l] with stray := satInc s.lanes[l].stray }).markStray n := by
  simp only [State.strayLanding, setLane_pfail, hp, strayTarget_setLane, h, Bool.false_eq_true, if_false]

/-- Settles O40, by whether the pulse is below high-water, and by the record that a stray names. -/
theorem unmatchedPocketPulseIsStray : Obligations.UnmatchedPocketPulseIsStray := by
  refine fun s l => ⟨fun hb => ?back, fun hb hw t ht => ?stray⟩
  case back => rw [exec_pocket, takePocket_back l hb]
  case stray =>
    rw [exec_pocket, takePocket_stray hb hw]
    subst ht
    refine ⟨fun hp => ?power, fun hp ha ho => ?none, fun n hc hp hn => ?some⟩
    case power => rw [strayLanding_power l hp]; rfl
    case none => rw [strayLanding_none hp ((strayTarget_open ha).trans ho)]; rfl
    case some =>
      have ht : s.strayTarget l = some n := by
        rcases hn with ⟨i, r, hf, hd⟩ | ⟨ha, ho⟩
        · exact strayTarget_awaiting hf hd
        · exact (strayTarget_open ha).trans ho
      rw [strayLanding_some hp ht]
      refine ⟨fun ⟨c, hq⟩ => ?_, fun hq => ?_⟩
      · rw [markStray_quarantined (by exact hc) (by exact hq)]; rfl
      · rw [markStray_live (by exact hc) (by exact hq)]; rfl

/-! ### Losses and jams (R87, R90, R95) -/

/-- R95: a row has a lane AWAITING. -/
theorem awaiting_iff (q : RowRecord) :
    q.lanes.toList.any (fun e => e.landing == .awaiting) = true ↔ ∃ l : Lane, q.lanes[l].landing = .awaiting := by
  simp only [List.any_eq_true, Vector.mem_toList_iff, Vector.mem_iff_getElem, beq_iff_eq]
  constructor
  · rintro ⟨_, ⟨k, hk, rfl⟩, h⟩
    exact ⟨⟨k, hk⟩, h⟩
  · rintro ⟨l, h⟩
    exact ⟨_, ⟨l.val, l.isLt, rfl⟩, h⟩

theorem landingEnd_test (s : State) (q : RowRecord) :
    (q.lanes.toList.any (fun e => e.landing == .awaiting) && s.passes (landingEndOf s q)) = true ↔
      (∃ l : Lane, q.lanes[l].landing = .awaiting) ∧ s.position.advanced = true ∧
        s.position.highWater = posAdd (posAdd (posAdd q.mark s.work.dGate) s.work.lMax) 1 := by
  rw [Bool.and_eq_true, awaiting_iff, passes_iff]
  rfl

/-- R90: the run state of a lane after the jam test: `reached` when its consecutive-lost count stands at the jam limit. -/
def runAfterJam (reached : Prop) [Decidable reached] : RunState → RunState
  | .off => .off
  | .jammed => .jammed
  | x => if reached then .jammed else x

theorem setLane_self (s : State) (l : Lane) : s.setLane l s.lanes[l] = s := by
  rw [State.setLane, vset_self]

/-- R90: the jam test changes the lane's run state only. -/
theorem jamTest_eq (s : State) (l : Lane) :
    s.jamTest l = s.setRun l (runAfterJam (s.work.jamLimit ≤ s.lanes[l].consecutiveLost.toNat) s.lanes[l].run) := by
  have hs : ∀ x, s.lanes[l].run = x → s = s.setRun l x := by
    rintro _ rfl
    exact (setLane_self s l).symm
  have hrun : ∀ x, s.lanes[l].run = x →
      (if s.work.jamLimit ≤ s.lanes[l].consecutiveLost.toNat then s.setRun l .jammed else s) =
        s.setRun l (if s.work.jamLimit ≤ s.lanes[l].consecutiveLost.toNat then .jammed else x) := by
    intro x hx
    by_cases hj : s.work.jamLimit ≤ s.lanes[l].consecutiveLost.toNat
    · rw [if_pos hj, if_pos hj]
    · rw [if_neg hj, if_neg hj]
      exact hs x hx
  unfold State.jamTest runAfterJam
  cases hr : s.lanes[l].run with
  | off => exact hs _ hr
  | jammed => exact hs _ hr
  | active => exact hrun _ hr
  | blocked c => exact hrun _ hr

/-- R90: a lane that is not OFF becomes JAMMED at the jam limit. -/
theorem jamTest_jams {s : State} {l : Lane} (hr : s.lanes[l].run ≠ .off)
    (h : s.work.jamLimit ≤ s.lanes[l].consecutiveLost.toNat) : s.jamTest l = s.setRun l .jammed := by
  rw [jamTest_eq]
  congr 1
  cases hx : s.lanes[l].run with
  | off => exact absurd hx hr
  | jammed => rfl
  | active => exact if_pos h
  | blocked c => exact if_pos h

/-- R90: an OFF or JAMMED lane, and one below the jam limit, stays as it is. -/
theorem jamTest_stays {s : State} {l : Lane}
    (h : s.lanes[l].run = .off ∨ s.lanes[l].run = .jammed ∨ s.lanes[l].consecutiveLost.toNat < s.work.jamLimit) :
    s.jamTest l = s := by
  unfold State.jamTest
  rcases h with h | h | h
  · rw [h]
  · rw [h]
  · split
    · rfl
    · rfl
    · exact if_neg (by omega)

/-- R87, R95: the lane at a loss. -/
theorem lost_eq (u : LaneUnit) (row : RowNo) :
    u.lost row = { skipAfter u .lost row with consecutiveLost := satInc u.consecutiveLost } := by
  rw [LaneUnit.lost, skip_eq]

@[simp] theorem lost_run (u : LaneUnit) (row : RowNo) : (u.lost row).run = u.run := by
  rw [lost_eq, skipAfter_run]

/-- R87, R90, R95: the lane's part of a loss, with the jam test that follows. -/
theorem jamTest_after_loss (s : State) (l : Lane) (row : RowNo) :
    (s.setLane l (s.lanes[l].lost row)).jamTest l =
      s.setLane l
        { s.lanes[l].lost row with
            run := runAfterJam (s.work.jamLimit ≤ (s.lanes[l].lost row).consecutiveLost.toNat) s.lanes[l].run } := by
  rw [jamTest_eq]
  simp only [State.setRun, State.setLane, vset_get_same, vset_vset, lost_run]

theorem chargeLoss_power {s : State} (n : StackNo) (h : s.pfail = true) : s.chargeLoss n = s := if_pos h

/-- R95, R123: on a sound part the loss is counted on a record that is not damaged. -/
theorem chargeLoss_sound {s : State} {n : StackNo} (hc : s.clean) (hp : s.pfail = false)
    (h : (s.stack n).state ≠ .quarantined .damaged) :
    s.chargeLoss n = s.setStack n { s.stack n with lost := min ((s.stack n).lost + 1) 9999 } := by
  rw [State.chargeLoss, if_neg (by rw [hp]; decide), readRecord_clean _ s hc]
  exact if_neg h

theorem loseLabel_stays {s : State} {i : RingSlot} {r : RowRecord} {l : Lane} (hr : s.rowAt i = some r)
    (h : r.lanes[l].landing ≠ .awaiting) : s.loseLabel i l = s := by
  rw [State.loseLabel, hr]
  exact if_neg h

/-- R95: the five steps of a loss of a stacked label. -/
theorem loseLabel_stack {s : State} {i : RingSlot} {r : RowRecord} {l : Lane} {n : StackNo} (hr : s.rowAt i = some r)
    (h : r.lanes[l].landing = .awaiting) (hd : r.lanes[l].disposition = .stack n) :
    ∀ a b : State, a = s.setRow i (r.setEntry l { r.lanes[l] with landing := .lost }) → b = a.chargeLoss n →
      s.loseLabel i l = ((b.setLane l (b.lanes[l].lost r.number)).jamTest l).completeTest n := by
  rintro a b rfl rfl
  rw [State.loseLabel, hr]
  dsimp only
  rw [if_pos h, setEntry_row hr, hd]

/-- Settles O41, by the search for the oldest row reached, and the steps of one loss. -/
theorem landingWindowEndLosesAwaitingLabels : Obligations.LandingWindowEndLosesAwaitingLabels := by
  refine ⟨fun s i r h => ?first, fun s h => ?none, fun s i r l hr => ⟨loseLabel_stays hr, fun n ha hd u t hu ht => ?loss⟩,
    fun s l => ⟨fun hx hj => ?jams, fun h => ?stays⟩⟩
  case first =>
    rw [exec_landingWindowEnd, State.takeLandingEnd, State.dueLanding, findOpen_first (landingEnd_test s) h]
  case none =>
    rw [exec_landingWindowEnd, State.takeLandingEnd, State.dueLanding, findOpen_none (landingEnd_test s) h]
  case jams => rw [exec_laneJammed, jamTest_jams hx hj]; rfl
  case stays => rw [exec_laneJammed, jamTest_stays h]
  case loss =>
    have hl := loseLabel_stack hr ha hd _ _ rfl rfl
    rw [← lost_eq] at hu
    have ht' : t = (s.setRow i (r.setEntry l { r.lanes[l] with landing := .lost })).setLane l
        { s.lanes[l].lost r.number with
            run := runAfterJam (s.work.jamLimit ≤ (s.lanes[l].lost r.number).consecutiveLost.toNat) s.lanes[l].run } := by
      rw [ht, hu]
      cases s.lanes[l].run <;> rfl
    rw [jamTest_after_loss] at hl
    refine ⟨fun hp => ?_, fun hs hq => ?_⟩
    · rw [hl, chargeLoss_power n (by exact hp), completeTest_stays (.inl (by exact hp)), ht']
      rfl
    · rw [hl, chargeLoss_sound (by exact hs.clean) (by exact hs.power) (by exact hq), ht']
      rfl

end Sys2Proof.Proofs
end

section
/-! SUPPORT. MODE requests, entry to DRAINING, and a record found damaged with its owner's effects. -/

namespace Sys2Proof.Proofs

open Sys2Proof Sys2Proof.Machine Sys2Proof.Laws

/-! ### Entry to DRAINING (R161, R163, R164) -/

/-- R163: T is not saved in a geometry record that is damaged. -/
theorem saveTrimWith_damaged (rd : Reader) {s : State} (h : s.geometryDamaged = true) : State.saveTrimWith rd s = s :=
  if_pos (.inr h)

/-- R163: on a clean image, with PFAIL negated, T becomes the saved trim of a geometry record that is not damaged. -/
theorem saveTrim_clean {s : State} (hc : s.clean) (hp : s.pfail = false) :
    State.saveTrimWith readRecord s =
      { s with memory := { s.memory with geometry :=
          if s.geometryDamaged then s.memory.geometry
          else { s.memory.geometry with savedTrim := s.register.trim } } } := by
  cases hd : s.geometryDamaged with
  | true => exact saveTrimWith_damaged _ hd
  | false =>
    rw [State.saveTrimWith, if_neg (by simp [hp, hd]), readRecord_clean _ s hc]
    exact if_neg (by simp [hd])

/-- R161, R164: entry to DRAINING with rows open. -/
theorem enterDrainingWith_open (rd : Reader) {s : State} (h : s.ring.openCount ≠ 0) :
    State.enterDrainingWith rd s =
      { s with
          modes := { mode := .draining, target := .park }
          position := { s.position with expectation := none, reverseDue := false } } :=
  if_neg fun hd => h hd.2

/-- R163, R164: entry to DRAINING with no row open completes the drain. -/
theorem enterDrainingWith_empty (rd : Reader) {s : State} (h : s.ring.openCount = 0) :
    State.enterDrainingWith rd s =
      (State.saveTrimWith rd
        { s with
            modes := { mode := .parked, target := .park }
            position := { s.position with expectation := none, reverseDue := false }
            lanes := vtab (fun l => { s.lanes[l] with gate := .waste }) }).raise .modeReached :=
  if_pos ⟨rfl, h⟩

/-! ### MODE (R161) -/

/-- R161: a MODE RUN on a sound geometry record answers the modes it leaves. -/
theorem modeRun_taken {s t : State} (hp : s.pfail = false) (hd : s.geometryDamaged = false)
    (ht : State.modeRun { s.framed 1 with port := .building } = t) :
    exec .modeRun s = .next { t with port := .ready (responseFrame .ok (modePayload t)) } := by
  rw [exec_modeRun, request_replies (t := t) (payload := modePayload t) (by exact hp)]
  have hn : ¬State.geometryDamaged { s.framed 1 with port := .building } = true := by
    rw [Bool.not_eq_true]
    exact hd
  rw [modeRunRule, if_neg hn, ht]

/-- R161: a MODE RUN while the geometry record is damaged. -/
theorem modeRun_refused {s : State} (hp : s.pfail = false) (hd : s.geometryDamaged = true) :
    exec .modeRun s = .next { s.framed 1 with port := .ready (responseFrame .errDamaged []) } := by
  rw [exec_modeRun, request_refuses (st := .errDamaged) (by exact hp)]
  exact if_pos hd

/-- R161: a MODE PARK answers the modes it leaves. -/
theorem modePark_taken {s t : State} (hp : s.pfail = false)
    (ht : State.modePark { s.framed 1 with port := .building } = t) :
    exec .modePark s = .next { t with port := .ready (responseFrame .ok (modePayload t)) } := by
  rw [exec_modePark, request_replies (t := t) (payload := modePayload t) (by exact hp)]
  rw [modeParkRule, ht]

theorem modeRun_starts {s : State} (h : s.modes.mode = .parked ∨ s.modes.mode = .draining) : s.modeRun = s.enterSeek := by
  rcases h with h | h <;> rw [State.modeRun, h]

theorem modeRun_seek {s : State} (h : s.modes.mode = .seek) : s.modeRun = s := by rw [State.modeRun, h]

theorem modeRun_tracking {s : State} (h : s.modes.mode = .tracking) : s.modeRun = s.raise .modeReached := by
  rw [State.modeRun, h]

theorem modePark_parked {s : State} (h : s.modes.mode = .parked) : s.modePark = s.raise .modeReached := by
  rw [State.modePark, h]

theorem modePark_draining {s : State} (h : s.modes.mode = .draining) : s.modePark = s := by rw [State.modePark, h]

theorem modePark_running {s : State} (h : s.modes.mode = .seek ∨ s.modes.mode = .tracking) :
    s.modePark = s.enterDraining := by
  rcases h with h | h <;> rw [State.modePark, h]

/-- R192: the response of MODE when the line mode is known. -/
theorem modePayload_of {s : State} {m : LineMode} (h : s.modes.mode = m) :
    modePayload s = [byteOf m.code, byteOf s.modes.target.code] := by
  rw [modePayload, h]

/-- Settles O54, by the line mode that the request finds. -/
theorem modeRequestsMoveTheLine : Obligations.ModeRequestsMoveTheLine := by
  intro s hp
  refine ⟨modeRun_refused hp, fun hd => ⟨fun hm => ?start, fun hm => ?seek, fun hm => ?tracking⟩, fun hm => ?parked,
    fun hm => ?draining, fun hm => ⟨fun ho => ?opened, fun hc ho => ?empty⟩⟩
  case start =>
    rw [modeRun_taken hp hd (modeRun_starts (by exact hm))]
    rfl
  case seek =>
    rw [modeRun_taken hp hd (modeRun_seek (by exact hm)), modePayload_of (by exact hm)]
    rfl
  case tracking =>
    rw [modeRun_taken hp hd (modeRun_tracking (by exact hm)), modePayload_of (by exact hm)]
    rfl
  case parked =>
    rw [modePark_taken hp (modePark_parked (by exact hm)), modePayload_of (by exact hm)]
    rfl
  case draining =>
    rw [modePark_taken hp (modePark_draining (by exact hm)), modePayload_of (by exact hm)]
    rfl
  case opened =>
    rw [modePark_taken hp ((modePark_running (by exact hm)).trans (enterDrainingWith_open _ (by exact ho)))]
    rfl
  case empty =>
    rw [modePark_taken hp ((modePark_running (by exact hm)).trans (enterDrainingWith_empty _ (by exact ho))),
      saveTrim_clean (by exact hc) (by exact hp)]
    rfl

/-! ### A double error marks its record (R179, R181) -/

section
variable {s : State} {ref : RecordRef} {w b b' : Nat}

/-- R179: two flipped bits in one word of the record cannot be corrected. -/
theorem uncorrectable_double (hf : s.memory.flips = [⟨ref, w, b⟩, ⟨ref, w, b'⟩]) (hw : w < ref.words) :
    s.uncorrectable ref = true := by
  have hflips : s.wordFlips ref w = [b, b'] := by simp [State.wordFlips, hf]
  rw [State.uncorrectable, List.any_eq_true]
  refine ⟨(w, .uncorrectable), ?_, rfl⟩
  rw [State.reports, List.mem_map]
  exact ⟨w, List.mem_range.mpr hw, by rw [hflips]; rfl⟩

/-- R179, R181: a read that finds them marks the record and applies the owner's effects. -/
theorem readRecord_double (hf : s.memory.flips = [⟨ref, w, b⟩, ⟨ref, w, b'⟩]) (hw : w < ref.words)
    (hd : s.isDamaged ref = false) :
    readRecord ref s = State.ownerEffectsWith (readFuel 97) s ref (s.markDamaged ref) :=
  readRecord_uncorrectable ref s hd (uncorrectable_double hf hw)

/-- R181: the mark: the damage rewrite, or the damaged set while PFAIL is asserted. -/
theorem markDamaged_double (hf : s.memory.flips = [⟨ref, w, b⟩, ⟨ref, w, b'⟩]) :
    s.markDamaged ref =
      { s with
          memory :=
            if s.pfail then { s.memory with damagedSet := ref :: s.memory.damagedSet }
            else { (s.rewrite ref).memory with flips := [] }
          attention := { s.attention with latched := s.attention.latched ||| Attention.recordDamaged.set } } := by
  have hr : (s.rewrite ref).memory.flips = s.memory.flips := by cases ref <;> rfl
  have hs : s.rewrite ref = { s with memory := (s.rewrite ref).memory } := by cases ref <;> rfl
  have hn : (s.rewrite ref).memory.flips.filter (fun f => f.ref != ref) = [] := by simp [hr, hf]
  unfold State.markDamaged
  split
  · rfl
  · rw [State.clearFlips, hn, hs]
    rfl

end

theorem markDamaged_pfail (s : State) (ref : RecordRef) : (s.markDamaged ref).pfail = s.pfail := by
  unfold State.markDamaged
  split
  · rfl
  · cases ref <;> rfl

/-- R178: whether a record is damaged is read from the image and the damaged set alone. -/
theorem isDamaged_of_memory {a b : State} (h : a.memory = b.memory) (ref : RecordRef) :
    a.isDamaged ref = b.isDamaged ref := by
  cases ref <;> simp only [State.isDamaged, State.marked, State.inDamagedSet, h]

/-- R181: a record marked damaged is damaged. -/
theorem isDamaged_markDamaged (s : State) (ref : RecordRef) : (s.markDamaged ref).isDamaged ref = true := by
  rw [State.isDamaged, Bool.or_eq_true]
  unfold State.markDamaged
  split
  · exact .inr (by simp [State.inDamagedSet, State.raise])
  · left
    cases ref with
    | geometry => rfl
    | job j => exact beq_iff_eq.mpr (congrArg JobRecord.state (vset_get_same _ _ _))
    | lane l => exact congrArg LaneRecord.damaged (vset_get_same _ _ _)
    | stack n => exact beq_iff_eq.mpr (congrArg StackRecord.state (vset_get_same _ _ _))
    | counter c => exact congrArg CounterConfig.damaged (vset_get_same _ _ _)

/-! ### The effects on the geometry record's owner (R183) -/

theorem geometryDamagedWith_idle (rd : Reader) {t : State} (h : ¬(t.modes.mode = .seek ∨ t.modes.mode = .tracking)) :
    State.geometryDamagedWith rd t = { t with register := { t.register with trim := 0 } } :=
  if_neg h

theorem geometryDamagedWith_open (rd : Reader) {t : State} (h : t.modes.mode = .seek ∨ t.modes.mode = .tracking)
    (ho : t.ring.openCount ≠ 0) :
    State.geometryDamagedWith rd t =
      { t with
          register := { t.register with trim := 0 }
          modes := { mode := .draining, target := .park }
          position := { t.position with expectation := none, reverseDue := false } } :=
  (if_pos h).trans (enterDrainingWith_open rd (by exact ho))

theorem geometryDamagedWith_empty (rd : Reader) {t : State} (h : t.modes.mode = .seek ∨ t.modes.mode = .tracking)
    (ho : t.ring.openCount = 0) (hd : t.geometryDamaged = true) :
    State.geometryDamagedWith rd t =
      { t with
          register := { t.register with trim := 0 }
          modes := { mode := .parked, target := .park }
          position := { t.position with expectation := none, reverseDue := false }
          lanes := vtab (fun l => { t.lanes[l] with gate := .waste })
          attention := { t.attention with latched := t.attention.latched ||| Attention.modeReached.set } } := by
  refine (if_pos h).trans ((enterDrainingWith_empty rd (by exact ho)).trans ?_)
  rw [saveTrimWith_damaged rd (by exact hd)]
  rfl

/-! ### The effects on the lanes (R106, R183) -/

/-- R88, R106: a lane that has lost its job: no row origin, and not running, unless JAMMED. -/
def laneStopped (u : LaneUnit) : LaneUnit :=
  { u with rowOrigin := .none, run := if u.run = .jammed then .jammed else .off }

theorem runAfterTest_false (r : RunState) : runAfterTest false r = if r = .jammed then .jammed else .off := by
  cases r <;> rfl

/-- R88, R106: a lane whose running condition can no longer hold stops. -/
theorem laneLosesJob_stops {t : State} {l : Lane} (h : ∀ u, (t.setLane l u).runningCondition l = false) :
    t.laneLosesJob l = t.setLane l (laneStopped t.lanes[l]) := by
  rw [State.laneLosesJob, State.retestLane, h, runAfterTest_false]
  simp only [State.setRun, State.setLane, vset_get_same, vset_vset]
  rfl

/-- R183: a lane with a damaged record is treated as disabled. -/
theorem runningCondition_damagedLane {t : State} {l : Lane} (h : t.isDamaged (.lane l) = true) :
    t.runningCondition l = false := by
  have hr : t.laneRec l = LaneRecord.treated := if_pos h
  rw [State.runningCondition, hr]
  rfl

/-- R88: a lane that names a DAMAGED slot does not run. -/
theorem runningCondition_damagedSlot {t : State} {l : Lane} {j : JobSlot} (hn : t.laneNames l j = true)
    (hj : (t.job j).state = .damaged) : t.runningCondition l = false := by
  have hslot : (t.laneRec l).slot = some j := beq_iff_eq.mp hn
  simp [State.runningCondition, hslot, hj]

/-- R106: what the lanes of a list become when the slot they may name is DAMAGED. -/
theorem foldl_laneLosesJob_lane {j : JobSlot} {ls : List Lane} (hl : ls.Nodup) {t : State}
    (hj : (t.job j).state = .damaged) (k : Lane) :
    (ls.foldl (fun t l => if t.laneNames l j then t.laneLosesJob l else t) t).lanes[k] =
      if k ∈ ls ∧ t.laneNames k j = true then laneStopped t.lanes[k] else t.lanes[k] := by
  induction ls generalizing t with
  | nil => simp
  | cons l ls ih =>
    obtain ⟨hnot, hl⟩ := List.nodup_cons.mp hl
    rw [List.foldl_cons]
    by_cases hn : t.laneNames l j = true
    · have hs : t.laneLosesJob l = t.setLane l (laneStopped t.lanes[l]) :=
        laneLosesJob_stops fun u => runningCondition_damagedSlot (by exact hn) (by exact hj)
      rw [if_pos hn, hs, ih hl (by exact hj), setLane_lanes, vset_get]
      change (if k ∈ ls ∧ t.laneNames k j = true then _ else _) = _
      by_cases hk : l = k
      · subst hk
        simp [hnot, hn]
      · simp [hk, Ne.symm hk]
    · rw [if_neg hn, ih hl hj]
      by_cases hk : k = l
      · subst hk
        simp [hn]
      · simp [hk]

/-- R106: the lane table's part when a slot becomes DAMAGED. -/
theorem slotGone_damaged {t : State} {j : JobSlot} (hj : (t.job j).state = .damaged) :
    t.slotGone j =
      { t with lanes := vtab (fun l => if t.laneNames l j then laneStopped t.lanes[l] else t.lanes[l]) } := by
  have hlanes : (t.slotGone j).lanes =
      vtab (fun l => if t.laneNames l j then laneStopped t.lanes[l] else t.lanes[l]) := by
    apply vector_ext
    intro k
    rw [vtab_get, State.slotGone, foldl_laneLosesJob_lane (List.nodup_finRange 12) hj]
    simp only [List.mem_finRange, true_and]
  rw [slotGone_lanes, hlanes]

/-- R181: a job record marked damaged reads as DAMAGED. -/
theorem job_markDamaged (s : State) (j : JobSlot) : ((s.markDamaged (.job j)).job j).state = .damaged := by
  have h := isDamaged_markDamaged s (.job j)
  rw [State.isDamaged, Bool.or_eq_true] at h
  unfold State.job
  split
  · rfl
  · next hd => exact beq_iff_eq.mp (h.resolve_right hd)

theorem laneRec_congr {a b : State} {l : Lane} (hd : a.isDamaged (.lane l) = b.isDamaged (.lane l))
    (hr : a.memory.laneRecs = b.memory.laneRecs) : a.laneRec l = b.laneRec l := by
  rw [State.laneRec, State.laneRec, hd, hr]

/-- R181: the mark of a job record leaves the lane records as a reader finds them. -/
theorem laneNames_markDamaged_job (s : State) (j k : JobSlot) (l : Lane) :
    (s.markDamaged (.job j)).laneNames l k = s.laneNames l k := by
  have hne : (RecordRef.lane l == RecordRef.job j) = false := by
    rw [beq_eq_false_iff_ne]
    nofun
  have hl : (s.markDamaged (.job j)).laneRec l = s.laneRec l := by
    unfold State.markDamaged
    split
    · refine laneRec_congr ?_ rfl
      simp only [State.isDamaged, State.marked, State.inDamagedSet, State.raise, List.contains_cons, hne, Bool.false_or]
    · rfl
  rw [State.laneNames, hl, State.laneNames]

/-- R97, R137: while PFAIL is asserted no stack is sealed. -/
theorem sealLaneWith_power (rd : Reader) {s : State} (l : Lane) (reason : SealReason) (h : s.pfail = true) :
    State.sealLaneWith rd l reason s = (s, none) := if_pos h

/-! ### The effects on the stack store (R182) -/

section
variable (rd : Reader) {was : StackRecord} (n : StackNo) (t : State)

theorem stackDamagedWith_none (h : was.state = .free ∨ was.state = .opened ∨ was.state = .quarantined .transfer) :
    State.stackDamagedWith rd was n t = t := by
  rcases h with h | h | h <;> rw [State.stackDamagedWith, h]

theorem stackDamagedWith_unblocks (h : was.state = .sealed ∨ was.state = .held ∨ was.state = .transfer) :
    State.stackDamagedWith rd was n t = t.unblockLanes := by
  rcases h with h | h | h <;> rw [State.stackDamagedWith, h]

theorem stackDamagedWith_delivered (h : was.state = .delivered) :
    State.stackDamagedWith rd was n t = t.voidEntry n := by
  rw [State.stackDamagedWith, h]

theorem stackDamagedWith_ready (h : was.state = .ready) :
    State.stackDamagedWith rd was n t =
      if t.pfail then t.unblockLanes
      else State.grantWith rd (State.pushHeldWith rd (laneOfNumber was.lane) t).unblockLanes := by
  rw [State.stackDamagedWith, h]

end

/-- R182: on a clean image, with PFAIL negated, the lane of a READY record found damaged has its HELD record pushed, and the
arbiter is tested. -/
theorem stackDamagedWith_ready_clean (k : Nat) {was : StackRecord} (n : StackNo) {t : State} {l : Lane} (hc : t.clean)
    (hp : t.pfail = false) (h : was.state = .ready) (hl : was.lane = l.val + 1) :
    State.stackDamagedWith (readFuel k) was n t = (t.pushHeld l).unblockLanes.grant := by
  have hm : (t.pushHeld l).memory.flips = [] := by
    rw [(pushHeld_moved l hc).flips]
    exact hc
  rw [stackDamagedWith_ready _ _ _ h, hp, hl, laneOfNumber_succ, pushHeldWith_fuel k l hc]
  exact grantWith_fuel k hm

/-- R128: a lane with no HELD record, or with its ready position occupied, pushes none. -/
theorem pushHeld_stays {s : State} {l : Lane} (h : s.heldOf l = none ∨ s.readyOf l ≠ none) : s.pushHeld l = s := by
  unfold State.pushHeld State.pushHeldWith
  cases hh : s.heldOf l with
  | none => rfl
  | some m =>
    rw [hh] at h
    exact if_pos (Option.isSome_iff_ne_none.mpr (h.resolve_left (by simp)))

/-- R128: on a clean image the HELD record of a lane with a free ready position becomes READY with a PUSH pulse. -/
theorem pushHeld_pushes {s : State} {l : Lane} {m : StackNo} (hc : s.clean) (hh : s.heldOf l = some m)
    (hr : s.readyOf l = none) : s.pushHeld l = (s.setStack m { s.stack m with state := .ready }).emit (.push l) := by
  obtain ⟨hstate, hlane⟩ := laneStack_some hh
  unfold State.pushHeld State.pushHeldWith
  simp only [hh, hr, readRecord_clean _ s hc, hstate, hlane, Option.isSome_none, Option.isNone_none, Bool.false_eq_true,
    if_false, and_self, if_true]

/-- R181: a stack record marked damaged reads as QUARANTINED with cause DAMAGED, every other field zero. -/
theorem stack_markDamaged {s : State} {n : StackNo} (h : s.isDamaged (.stack n) = false) :
    (s.markDamaged (.stack n)).stack n = StackRecord.zero (.quarantined .damaged) := by
  have hd : s.inDamagedSet (.stack n) = false := (Bool.or_eq_false_iff.mp h).2
  unfold State.markDamaged
  split
  · exact if_pos (by simp [State.inDamagedSet, State.raise])
  · exact stack_setStack_same s n _ hd

/-! ### The statement, record by record -/

theorem counterDamaged_double {s : State} {c : CounterNo} {w b b' : Nat}
    (hf : s.memory.flips = [⟨.counter c, w, b⟩, ⟨.counter c, w, b'⟩]) (hw : w < 3)
    (hd : s.isDamaged (.counter c) = false) :
    readRecord (.counter c) s = State.counterDamaged c (s.markDamaged (.counter c)) :=
  readRecord_double hf hw hd

/-- R166: a counter whose configuration was found damaged is off. -/
theorem counterOff_double {s : State} {c : CounterNo} {w b b' : Nat}
    (hf : s.memory.flips = [⟨.counter c, w, b⟩, ⟨.counter c, w, b'⟩]) (hw : w < 3)
    (hd : s.isDamaged (.counter c) = false) : (readRecord (.counter c) s).counterOff c = true := by
  rw [counterDamaged_double hf hw hd]
  exact (isDamaged_of_memory rfl _).trans (isDamaged_markDamaged s (.counter c))

/-- R183: the geometry record found damaged, where no drain completes at once. -/
theorem geometryDamaged_double {s : State} {w b b' : Nat}
    (hf : s.memory.flips = [⟨.geometry, w, b⟩, ⟨.geometry, w, b'⟩]) (hw : w < 16) (hd : s.geometryDamaged = false)
    (ho : s.modes.mode = .seek ∨ s.modes.mode = .tracking → s.ring.openCount ≠ 0) :
    readRecord .geometry s =
      { s with
          memory := (s.markDamaged .geometry).memory
          register := { s.register with trim := 0 }
          attention := { s.attention with latched := s.attention.latched ||| Attention.recordDamaged.set }
          modes := if s.modes.mode = .seek ∨ s.modes.mode = .tracking then { mode := .draining, target := .park }
            else s.modes
          position := if s.modes.mode = .seek ∨ s.modes.mode = .tracking then
              { s.position with expectation := none, reverseDue := false }
            else s.position } := by
  rw [readRecord_double hf hw hd, markDamaged_double hf]
  by_cases hm : s.modes.mode = .seek ∨ s.modes.mode = .tracking
  · rw [if_pos hm, if_pos hm]
    exact geometryDamagedWith_open _ hm (ho hm)
  · rw [if_neg hm, if_neg hm]
    exact geometryDamagedWith_idle _ hm

/-- R163, R164, R183: the geometry record found damaged in SEEK or TRACKING with no row open. -/
theorem geometryDamaged_double_empty {s : State} {w b b' : Nat}
    (hf : s.memory.flips = [⟨.geometry, w, b⟩, ⟨.geometry, w, b'⟩]) (hw : w < 16) (hd : s.geometryDamaged = false)
    (hm : s.modes.mode = .seek ∨ s.modes.mode = .tracking) (ho : s.ring.openCount = 0) :
    readRecord .geometry s =
      { s with
          memory := (s.markDamaged .geometry).memory
          register := { s.register with trim := 0 }
          attention := { s.attention with latched :=
            s.attention.latched ||| Attention.recordDamaged.set ||| Attention.modeReached.set }
          modes := { mode := .parked, target := .park }
          position := { s.position with expectation := none, reverseDue := false }
          lanes := vtab (fun l => { s.lanes[l] with gate := .waste }) } := by
  have hmark := isDamaged_markDamaged s .geometry
  rw [readRecord_double hf hw hd]
  rw [markDamaged_double hf] at hmark ⊢
  exact geometryDamagedWith_empty _ hm ho hmark

/-- R106, R183: a job record found damaged stops the lanes that name its slot. -/
theorem jobDamaged_double {s : State} {j : JobSlot} {w b b' : Nat}
    (hf : s.memory.flips = [⟨.job j, w, b⟩, ⟨.job j, w, b'⟩]) (hw : w < 8) (hd : s.isDamaged (.job j) = false) :
    readRecord (.job j) s =
      { s.markDamaged (.job j) with
          lanes := vtab (fun l => if s.laneNames l j then laneStopped s.lanes[l] else s.lanes[l]) } := by
  have hlanes : (s.markDamaged (.job j)).lanes = s.lanes := by rw [markDamaged_double hf]
  rw [readRecord_double hf hw hd]
  refine (slotGone_damaged (job_markDamaged s j)).trans ?_
  simp only [laneNames_markDamaged_job, hlanes]

/-- R183: a lane record found damaged: the lane stops, and its OPEN stack is then sealed. -/
theorem laneDamaged_double {s : State} {l : Lane} {w b b' : Nat}
    (hf : s.memory.flips = [⟨.lane l, w, b⟩, ⟨.lane l, w, b'⟩]) (hw : w < 2) (hd : s.isDamaged (.lane l) = false) :
    readRecord (.lane l) s =
      (State.sealLaneWith (readFuel 97) l .laneOff
        ((s.markDamaged (.lane l)).setLane l (laneStopped s.lanes[l]))).1 := by
  have hlanes : (s.markDamaged (.lane l)).lanes = s.lanes := by rw [markDamaged_double hf]
  have hstop : (s.markDamaged (.lane l)).laneLosesJob l =
      (s.markDamaged (.lane l)).setLane l (laneStopped (s.markDamaged (.lane l)).lanes[l]) :=
    laneLosesJob_stops fun u => runningCondition_damagedLane (isDamaged_markDamaged s (.lane l))
  rw [readRecord_double hf hw hd, State.ownerEffectsWith, State.laneDamagedWith, hstop, hlanes]

/-- R183: with no OPEN stack, or under PFAIL, that is all. -/
theorem sealLaneWith_stays {s : State} {l : Lane} (k : Nat) (reason : SealReason)
    (h : s.pfail = true ∨ s.clean ∧ s.openOf l = none) : (State.sealLaneWith (readFuel k) l reason s).1 = s := by
  rcases h with hp | ⟨hc, ho⟩
  · rw [sealLaneWith_power _ _ _ hp]
  · rw [sealLaneWith_fuel k l reason hc, sealLane_none ho]

/-- R181: the rewrite leaves no flipped bit, where the two flips were the only ones. -/
theorem markDamaged_clean {s : State} {ref : RecordRef} {w b b' : Nat}
    (hf : s.memory.flips = [⟨ref, w, b⟩, ⟨ref, w, b'⟩]) (hp : s.pfail = false) : (s.markDamaged ref).clean := by
  rw [State.clean, markDamaged_double hf, hp]
  rfl

/-- R181: the rewrite of a lane record leaves the stack records. -/
theorem stack_markDamaged_lane {s : State} (l : Lane) (hp : s.pfail = false) :
    (s.markDamaged (.lane l)).stack = s.stack := by
  rw [State.markDamaged, if_neg (by rw [hp]; decide)]
  rfl

theorem openOf_congr {a b : State} (h : a.stack = b.stack) (l : Lane) : a.openOf l = b.openOf l := by
  rw [State.openOf, State.laneStack, State.findStack, h]
  rfl

/-- R125, R183: the OPEN stack of a lane whose record is found damaged is sealed with LANE_OFF. -/
theorem laneDamaged_double_seals {s : State} {l : Lane} {n : StackNo} {w b b' : Nat}
    (hf : s.memory.flips = [⟨.lane l, w, b⟩, ⟨.lane l, w, b'⟩]) (hw : w < 2) (hd : s.isDamaged (.lane l) = false)
    (hp : s.pfail = false) (hn : s.openOf l = some n) :
    readRecord (.lane l) s =
      (((s.markDamaged (.lane l)).setLane l (laneStopped s.lanes[l])).setStack n
        { s.stack n with state := .sealed, sealReason := some .laneOff }).completeTest n := by
  have hc : ((s.markDamaged (.lane l)).setLane l (laneStopped s.lanes[l])).clean := markDamaged_clean hf hp
  have hs : ((s.markDamaged (.lane l)).setLane l (laneStopped s.lanes[l])).stack = s.stack := stack_markDamaged_lane l hp
  have hpow : ((s.markDamaged (.lane l)).setLane l (laneStopped s.lanes[l])).pfail = false :=
    (markDamaged_pfail s _).trans hp
  rw [laneDamaged_double hf hw hd, sealLaneWith_fuel 97 l .laneOff hc,
    sealLane_open hc hpow ((openOf_congr hs l).trans hn), seal_eq, hs]

/-- Settles O10, by the kind of the record, through the effects of the mark on its owner. -/
theorem doubleErrorMarksRecordDamagedWithItsEffects : Obligations.DoubleErrorMarksRecordDamagedWithItsEffects := by
  refine ⟨fun s c w b b' _ hf hw hd => ⟨?counter, counterOff_double hf hw hd⟩,
    fun s w b b' _ hf hw hd ho => ⟨?geometry, ?geometryOff⟩,
    fun s w b b' _ hf hw hd hm ho => geometryDamaged_double_empty hf hw hd hm ho,
    fun s j w b b' _ hf hw hd => ?job,
    fun s l w b b' _ hf hw hd t ht => ?lane,
    fun s n w b b' _ hf hw hd t ht => ?stack⟩
  case counter =>
    rw [counterDamaged_double hf hw hd, markDamaged_double hf]
    rfl
  case geometry =>
    rw [geometryDamaged_double hf hw hd ho, markDamaged_double hf]
    rfl
  case geometryOff =>
    rw [geometryDamaged_double hf hw hd ho]
    exact (isDamaged_of_memory rfl _).trans (isDamaged_markDamaged s .geometry)
  case job =>
    rw [jobDamaged_double hf hw hd, markDamaged_double hf]
    rfl
  case lane =>
    have ht' : t = (s.markDamaged (.lane l)).setLane l (laneStopped s.lanes[l]) := by
      rw [ht, markDamaged_double hf]
      rfl
    refine ⟨fun h => ?_, fun n hp hn => ?_⟩
    · rw [ht', laneDamaged_double hf hw hd, sealLaneWith_stays]
      cases hp : s.pfail with
      | true => exact .inl ((markDamaged_pfail s _).trans hp)
      | false =>
        have ho := h.resolve_left (by rw [hp]; decide)
        exact .inr ⟨markDamaged_clean hf hp, (openOf_congr (stack_markDamaged_lane l hp) l).trans ho⟩
    · rw [ht', laneDamaged_double_seals hf hw hd hp hn]
  case stack =>
    have ht' : t = s.markDamaged (.stack n) := by
      rw [ht, markDamaged_double hf]
      rfl
    have hr : readRecord (.stack n) s = State.stackDamagedWith (readFuel 97) (s.stack n) n t := by
      rw [ht']
      exact readRecord_double hf hw hd
    have hpow : t.pfail = s.pfail := by rw [ht', markDamaged_pfail]
    rw [hr]
    refine ⟨by rw [ht', stack_markDamaged hd], stackDamagedWith_none _ n t, stackDamagedWith_unblocks _ n t,
      fun h => ?delivered, fun h hp => ?power, fun l h hp hl => ?ready⟩
    case delivered =>
      rw [stackDamagedWith_delivered _ n t h, ht]
      rfl
    case power => rw [stackDamagedWith_ready _ n t h, hpow, if_pos hp]
    case ready =>
      have hc : t.clean := ht' ▸ markDamaged_clean hf hp
      rw [stackDamagedWith_ready_clean 97 n hc (hpow.trans hp) h hl]
      refine ⟨fun hs => by rw [pushHeld_stays hs], fun m hm hn => ?_⟩
      rw [pushHeld_pushes hc hm hn, ht]
      rfl

end Sys2Proof.Proofs
end

section
/-! SUPPORT. The row ring: a finished oldest row retires, and with it the finished rows behind it. -/

namespace Sys2Proof.Proofs

open Sys2Proof Sys2Proof.Machine Sys2Proof.Laws

theorem exec_rowRetire (s : State) : exec .rowRetire s = .next s.retireRows := rfl

/-! ### The finished test (R32) and the snapshots of a row (R34) -/

theorem finished_iff (r : RowRecord) :
    r.finished = true ↔ r.phase = .decided ∧ ∀ l : Lane, r.lanes[l].landing ≠ .awaiting := by
  have hany : r.lanes.toList.all (fun e => e.landing != .awaiting) = true ↔
      ¬r.lanes.toList.any (fun e => e.landing == .awaiting) = true := by
    simp only [List.all_eq_true, List.any_eq_true, bne_iff_ne, beq_iff_eq, not_exists, not_and]
  rw [RowRecord.finished, Bool.and_eq_true, beq_iff_eq, hany, awaiting_iff, not_exists]

/-- R34: a slot is named in a row's snapshots. -/
theorem snapshot_iff (r : RowRecord) (j : JobSlot) :
    r.lanes.toList.any (fun e => e.snapshot == some j) = true ↔ ∃ l : Lane, r.lanes[l].snapshot = some j := by
  simp only [List.any_eq_true, Vector.mem_toList_iff, Vector.mem_iff_getElem, beq_iff_eq]
  constructor
  · rintro ⟨_, ⟨k, hk, rfl⟩, h⟩
    exact ⟨⟨k, hk⟩, h⟩
  · rintro ⟨l, h⟩
    exact ⟨_, ⟨l.val, l.isLt, rfl⟩, h⟩

/-- R34: the slots named in the snapshots are tested for emptying. -/
theorem reportRetired_eq (s : State) (r : RowRecord) :
    s.reportRetired r =
      (List.finRange 16).foldl
        (fun a j => if ∃ l : Lane, r.lanes[l].snapshot = some j then a.emptySlot j else a) s := by
  simp only [State.reportRetired, snapshot_iff]

/-- R34: on a clean image the tests of the job table leave the ring and the image's flipped bits alone. -/
theorem reportRetired_ring {s : State} (hc : s.clean) (r : RowRecord) :
    (s.reportRetired r).ring = s.ring ∧ (s.reportRetired r).clean := by
  unfold State.reportRetired
  induction List.finRange 16 generalizing s with
  | nil => exact ⟨rfl, hc⟩
  | cons j js ih =>
    rw [List.foldl_cons]
    split
    · obtain ⟨hring, hflips⟩ := emptySlot_ring j hc
      obtain ⟨hr, hf⟩ := ih hflips
      exact ⟨hr.trans hring, hf⟩
    · exact ih hc

/-! ### One retirement (R33) -/

/-- R33: row `r`, the oldest open row, is RETIRED in its slot and leaves the open rows. -/
def retireOldest (s : State) (r : RowRecord) : State :=
  { s with ring :=
      { s.ring with
        slots := vset s.ring.slots (ringSlot (s.ring.next - BitVec.ofNat 32 s.ring.openCount))
          (some { r with phase := .retired })
        openCount := s.ring.openCount - 1 } }

/-- R33: an oldest row that is not finished keeps its place. -/
theorem retireFuel_stays (k : Nat) {s : State} {r : RowRecord} (hr : s.rowAt (ringSlot s.oldestNumber) = some r)
    (h : r.finished = false) : retireFuel k s = s := by
  cases k with
  | zero => rfl
  | succ k =>
    rw [retireFuel, hr]
    exact if_neg fun ⟨_, hf⟩ => by rw [h] at hf; exact absurd hf (by decide)

/-- R33: a finished oldest row retires; the drain is tested when it was the last, else the next row is. -/
theorem retireFuel_finished (k : Nat) {s : State} {r : RowRecord} (hr : s.rowAt (ringSlot s.oldestNumber) = some r)
    (ho : s.ring.openCount ≠ 0) (h : r.finished = true) :
    retireFuel (k + 1) s =
      if ((retireOldest s r).reportRetired r).ring.openCount = 0 then ((retireOldest s r).reportRetired r).drainTest
      else retireFuel k ((retireOldest s r).reportRetired r) := by
  rw [retireFuel, hr]
  exact if_pos ⟨ho, h⟩

/-- R33, R34: on a clean image the fuel of the next retirement is the open count left. -/
theorem retireRows_finished {s : State} {r : RowRecord} (hc : s.clean)
    (hr : s.rowAt (ringSlot s.oldestNumber) = some r) (ho : s.ring.openCount ≠ 0) (h : r.finished = true) :
    s.retireRows =
      if s.ring.openCount = 1 then ((retireOldest s r).reportRetired r).drainTest
      else ((retireOldest s r).reportRetired r).retireRows := by
  obtain ⟨k, hk⟩ := Nat.exists_eq_succ_of_ne_zero ho
  obtain ⟨hring, -⟩ := reportRetired_ring (s := retireOldest s r) (by exact hc) r
  have hcount : ((retireOldest s r).reportRetired r).ring.openCount = k := by
    rw [hring, retireOldest, hk]
    rfl
  have hlast : k = 0 ↔ s.ring.openCount = 1 := by omega
  rw [State.retireRows, hk, retireFuel_finished k hr ho h, State.retireRows, hcount]
  simp only [hlast, hk]

/-- Settles O43, by whether the oldest open row is finished, and whether it is the last one open. -/
theorem finishedOldestRowRetires : Obligations.FinishedOldestRowRetires := by
  intro s
  refine ⟨fun ho => ?none, fun r hr => ⟨fun h => ?unfinished, fun hc ho hd hl t ht => ?finished⟩⟩
  case none => rw [exec_rowRetire, State.retireRows, ho, retireFuel]
  case unfinished =>
    have hf : r.finished = false := by
      rw [Bool.eq_false_iff, ne_eq, finished_iff]
      rintro ⟨hd, hl⟩
      rcases h with hp | ⟨l, ha⟩
      · exact hp hd
      · exact hl l ha
    rw [exec_rowRetire, State.retireRows, retireFuel_stays _ hr hf]
  case finished =>
    have hstep := retireRows_finished hc hr ho ((finished_iff r).mpr ⟨hd, hl⟩)
    have hreport : (retireOldest s r).reportRetired r = t := by rw [ht, reportRetired_eq]; rfl
    rw [hreport] at hstep
    exact ⟨fun h1 => by rw [exec_rowRetire, hstep, if_pos h1], fun h1 => by rw [exec_rowRetire, hstep, if_neg h1]⟩

end Sys2Proof.Proofs
end

section
/-! SUPPORT. The requests on the geometry record: GEOMETRY WRITE with its ranges and its payload, and OFFSET NUDGE. -/

namespace Sys2Proof.Proofs

open Sys2Proof Sys2Proof.Machine Sys2Proof.Laws

theorem exec_geometryWrite (p : GeometryPayload) (s : State) :
    exec (.geometryWrite p) s = .next ((s.framed 51).request true (geometryWriteRule p)) := rfl
theorem exec_offsetNudge (delta : BitVec 16) (s : State) :
    exec (.offsetNudge delta) s = .next ((s.framed 2).request true (offsetNudgeRule delta)) := rfl

/-! ### The codes of modes and rates (R192) -/

theorem arbiterOfCode_iff (k : Nat) (m : ArbiterMode) : ArbiterMode.ofCode k = some m ↔ k = m.code := by
  match k with
  | 0 | 1 => cases m <;> decide
  | k + 2 => cases m <;> simp [ArbiterMode.ofCode, ArbiterMode.code]

theorem inspectionOfCode_iff (k : Nat) (m : InspectionMode) : InspectionMode.ofCode k = some m ↔ k = m.code := by
  match k with
  | 0 | 1 => cases m <;> decide
  | k + 2 => cases m <;> simp [InspectionMode.ofCode, InspectionMode.code]

theorem linkRateOfCode_iff (k : Nat) (m : LinkRate) : LinkRate.ofCode k = some m ↔ k = m.code := by
  match k with
  | 0 | 1 | 2 | 3 => cases m <;> decide
  | k + 4 => cases m <;> simp [LinkRate.ofCode, LinkRate.code]

/-! ### The settings a payload carries (R60, R197) -/

/-- R60: the fields a payload carries, in settings whose modes and rates are those of `g`. -/
def carriedFields (p : GeometryPayload) (g : Settings) : Settings :=
  { g with
      pNom := p.pNom.toNat, wMark := p.wMark.toNat, lossLimit := p.lossLimit.toNat, dDie := p.dDie.toNat
      wDie := p.wDie.toNat, oCut := p.oCut.toInt, dGate := p.dGate.toNat, lMin := p.lMin.toNat
      lMax := p.lMax.toNat, upstream := p.upstream.toNat, lead := p.lead.toNat, trail := p.trail.toNat
      rRev := p.rRev.toNat, filterShift := p.filterShift.toNat, gain := p.gain.toNat, slew := p.slew.toNat
      lTrim := p.lTrim.toNat, tol := p.tol.toNat, wOut := p.wOut.toNat, nSettle := p.nSettle.toNat
      capacity := p.capacity.toNat, watermark := p.watermark.toNat
      shuttleTimeout := p.shuttleTimeout.toNat, jamLimit := p.jamLimit.toNat }

theorem settings_of_codes {p : GeometryPayload} {g : Settings} (ha : ArbiterMode.ofCode p.arbiter.toNat = some g.arbiter)
    (hi : InspectionMode.ofCode p.inspection.toNat = some g.inspection)
    (hv : LinkRate.ofCode p.verdictRate.toNat = some g.verdictRate)
    (ht : LinkRate.ofCode p.trimRate.toNat = some g.trimRate) :
    GeometryPayload.settings p = some (carriedFields p g) := by
  rw [GeometryPayload.settings, ha, hi, hv, ht]
  rfl

/-- R60: settings are carried only under codes of the modes and rates they hold. -/
theorem codes_of_settings {p : GeometryPayload} {g : Settings} (h : GeometryPayload.settings p = some g) :
    ArbiterMode.ofCode p.arbiter.toNat = some g.arbiter ∧ InspectionMode.ofCode p.inspection.toNat = some g.inspection ∧
      LinkRate.ofCode p.verdictRate.toNat = some g.verdictRate ∧ LinkRate.ofCode p.trimRate.toNat = some g.trimRate := by
  unfold GeometryPayload.settings at h
  split at h
  · next ha hi hv ht =>
    obtain rfl := Option.some.inj h
    exact ⟨ha, hi, hv, ht⟩
  · exact absurd h nofun

theorem settings_iff (p : GeometryPayload) (g : Settings) :
    GeometryPayload.settings p = some g ↔
      p.arbiter.toNat = g.arbiter.code ∧ p.inspection.toNat = g.inspection.code ∧
        p.verdictRate.toNat = g.verdictRate.code ∧ p.trimRate.toNat = g.trimRate.code ∧ g = carriedFields p g := by
  rw [← arbiterOfCode_iff, ← inspectionOfCode_iff, ← linkRateOfCode_iff, ← linkRateOfCode_iff]
  constructor
  · intro h
    obtain ⟨ha, hi, hv, ht⟩ := codes_of_settings h
    exact ⟨ha, hi, hv, ht, Option.some.inj (h.symm.trans (settings_of_codes ha hi hv ht))⟩
  · rintro ⟨ha, hi, hv, ht, hg⟩
    rw [settings_of_codes ha hi hv ht, ← hg]

/-! ### GEOMETRY WRITE (R61, R155) -/

/-- R60, R36: the ranges and the row check of a geometry. -/
theorem checks_iff (g : Settings) :
    (g.inRange && g.rowCheck) = true ↔ g.inRange = true ∧ g.dGate + g.lMax ≤ 118 * (g.pNom - g.wMark) := by
  rw [Bool.and_eq_true, Settings.rowCheck, decide_eq_true_iff]

section
variable {s : State} {p : GeometryPayload} {g : Settings}

theorem geometryWriteRule_running (h : s.modes.mode ≠ .parked) : geometryWriteRule p s = refuse s .errState := if_pos h

theorem geometryWriteRule_codes (hm : s.modes.mode = .parked) (hg : GeometryPayload.settings p = none) :
    geometryWriteRule p s = refuse s .errArg := by
  rw [geometryWriteRule, if_neg (not_not_intro hm), hg]

theorem geometryWriteRule_ranges (hm : s.modes.mode = .parked) (hg : GeometryPayload.settings p = some g)
    (h : ¬(g.inRange && g.rowCheck) = true) : geometryWriteRule p s = refuse s .errArg := by
  rw [geometryWriteRule, if_neg (not_not_intro hm), hg]
  exact if_neg h

theorem geometryWriteRule_capacity (hm : s.modes.mode = .parked) (hg : GeometryPayload.settings p = some g)
    (h : (g.inRange && g.rowCheck) = true) (hq : g.capacity < s.queue.entries.length + s.shuttle.state.inTransfer) :
    geometryWriteRule p s = refuse s .errState := by
  rw [geometryWriteRule, if_neg (not_not_intro hm), hg]
  exact (if_pos h).trans (if_pos hq)

theorem geometryWriteRule_taken (hc : s.clean) (hm : s.modes.mode = .parked)
    (hg : GeometryPayload.settings p = some g) (h : (g.inRange && g.rowCheck) = true)
    (hq : s.queue.entries.length + s.shuttle.state.inTransfer ≤ g.capacity) :
    geometryWriteRule p s = reply (s.loadGeometry g).applyGeometry [] := by
  rw [geometryWriteRule, if_neg (not_not_intro hm), hg, readRecord_clean _ s hc]
  exact (if_pos h).trans (if_neg (Nat.not_lt.mpr hq))

/-- R180: on a clean image a whole write changes no flipped bit. -/
theorem clearFlips_clean (hc : s.clean) (ref : RecordRef) : s.clearFlips ref = s := by
  have hflips : s.memory.flips.filter (fun f => f.ref != ref) = s.memory.flips := by
    rw [show s.memory.flips = [] from hc]
    rfl
  rw [State.clearFlips, hflips]

/-- R178: with an empty damaged set a record is damaged when it carries its mark. -/
theorem isDamaged_eq_marked (h : s.memory.damagedSet = []) (ref : RecordRef) : s.isDamaged ref = s.marked ref := by
  rw [State.isDamaged, State.inDamagedSet, h, List.contains_nil, Bool.or_false]

theorem loadGeometry_sound (hs : s.sound) (g : Settings) :
    s.loadGeometry g =
      { s with
          memory := { s.memory with geometry :=
            { damaged := false
              settings := g
              savedTrim := max (-(g.lTrim : Int)) (min g.lTrim
                (if s.memory.geometry.damaged then s.register.trim else s.memory.geometry.savedTrim)) } }
          register := { s.register with trim := max (-(g.lTrim : Int)) (min g.lTrim s.register.trim) }
          work := g } := by
  rw [State.loadGeometry, clearFlips_clean (by exact hs.clean), State.geometryDamaged, isDamaged_eq_marked hs.damaged]
  rfl

/-- R42, R143, R155: on a clean image the blocks take a new geometry. -/
theorem applyGeometry_clean (hc : s.clean) :
    s.applyGeometry =
      State.grant
        { s with
            verdict := { s.verdict with state := .hunt, kept := [], count := 0, spoiled := false }
            shuttle := { s.shuttle with credits := vtab (fun l => (s.laneRec l).weight), lastWinner := none } } := by
  rw [State.applyGeometry, readAll_clean _ _ (by exact hc)]
  rfl

/-- R61, R155: the record, the working copies and the blocks after a GEOMETRY WRITE on a sound part. -/
theorem loadGeometry_applied (hs : s.sound) (g : Settings) :
    (s.loadGeometry g).applyGeometry =
      State.grant
        { s with
            memory := { s.memory with geometry :=
              { damaged := false
                settings := g
                savedTrim := max (-(g.lTrim : Int)) (min g.lTrim
                  (if s.memory.geometry.damaged then s.register.trim else s.memory.geometry.savedTrim)) } }
            register := { s.register with trim := max (-(g.lTrim : Int)) (min g.lTrim s.register.trim) }
            work := g
            verdict := { s.verdict with state := .hunt, kept := [], count := 0, spoiled := false }
            shuttle := { s.shuttle with credits := vtab (fun l => (s.laneRec l).weight), lastWinner := none } } := by
  rw [loadGeometry_sound hs, applyGeometry_clean (by exact hs.clean)]
  rfl

end

/-- R60: the ranges, each bound written out. -/
theorem settingsInRange_iff (g : Settings) : g.inRange = true ↔
    2000 ≤ g.pNom ∧ g.pNom ≤ 65000 ∧ 16 ≤ g.wMark ∧ g.wMark ≤ g.pNom / 4 ∧ 1 ≤ g.lossLimit ∧ g.lossLimit ≤ 8 ∧
    1000 ≤ g.dDie ∧ g.dDie ≤ 1000000 ∧ 16 ≤ g.wDie ∧ g.wDie ≤ g.pNom / 2 ∧ -4000 ≤ g.oCut ∧ g.oCut ≤ 4000 ∧
    g.dDie + g.wDie + 1 ≤ g.dGate ∧ g.dGate ≤ 1200000 ∧ g.lMin ≤ 60000 ∧ g.lMin + 64 ≤ g.lMax ∧ g.lMax ≤ 60000 ∧
    g.upstream ≤ 1000000 ∧ g.lead ≤ 65000 ∧ g.trail ≤ 65000 ∧ 16 ≤ g.rRev ∧ g.rRev ≤ 65535 ∧ g.filterShift ≤ 6 ∧
    g.gain ≤ 16 ∧ 1 ≤ g.slew ∧ g.slew ≤ 1000 ∧ 1 ≤ g.lTrim ∧ g.lTrim ≤ 16000 ∧ 1 ≤ g.tol ∧ g.tol ≤ 4000 ∧
    g.tol ≤ g.wOut ∧ g.wOut ≤ 32767 ∧ 1 ≤ g.nSettle ∧ g.nSettle ≤ 32 ∧ 1 ≤ g.capacity ∧ g.capacity ≤ 24 ∧
    1 ≤ g.watermark ∧ g.watermark ≤ g.capacity ∧ 100 ≤ g.shuttleTimeout ∧ g.shuttleTimeout ≤ 10000 ∧
    1 ≤ g.jamLimit ∧ g.jamLimit ≤ 8 := by
  simp only [Settings.inRange, Machine.inRange, Bool.and_eq_true, decide_eq_true_iff, and_assoc, Nat.zero_le, true_and]

/-! ### OFFSET NUDGE (R74) -/

theorem offsetNudgeRule_damaged {s : State} (hc : s.clean) (h : s.geometryDamaged = true) (delta : BitVec 16) :
    offsetNudgeRule delta s = refuse s .errDamaged := by
  rw [offsetNudgeRule, readRecord_clean _ s hc]
  exact if_pos h

theorem offsetNudgeRule_taken {s : State} {sum o : Int} (hc : s.clean) (h : s.geometryDamaged = false)
    {delta : BitVec 16} (hsum : sum = s.memory.geometry.settings.oCut + delta.toInt)
    (ho : o = max (-4000) (min 4000 sum)) :
    offsetNudgeRule delta s =
      reply (if delta = 0 then s else s.setOffset o) (be16s o ++ [flagByte (decide (sum ≠ o))]) := by
  subst ho hsum
  rw [offsetNudgeRule, readRecord_clean _ s hc]
  exact if_neg (by rw [h]; decide)

/-- Settles O55, by the checks of GEOMETRY WRITE in their order, and by the delta of OFFSET NUDGE. -/
theorem geometryWriteReplacesRecordAndNudgeMovesOffset : Obligations.GeometryWriteReplacesRecordAndNudgeMovesOffset := by
  refine ⟨fun s p hp => ⟨fun hm => ?running, fun hm hg => ?codes,
    fun g hm hg => ⟨fun h => ?ranges, fun hr hk => ⟨fun hq => ?capacity, fun hs hq => ?taken⟩⟩⟩,
    settingsInRange_iff, settings_iff, fun s delta hs => ⟨fun hd => ?damaged, fun hd sum o hsum ho => ?nudge⟩⟩
  case running => rw [exec_geometryWrite, request_refuses (by exact hp) (geometryWriteRule_running (by exact hm))]
  case codes => rw [exec_geometryWrite, request_refuses (by exact hp) (geometryWriteRule_codes (by exact hm) hg)]
  case ranges =>
    have hbad : ¬(g.inRange && g.rowCheck) = true := by
      rw [checks_iff]
      rintro ⟨hr, hk⟩
      rcases h with h | h
      · rw [h] at hr; exact absurd hr (by decide)
      · omega
    rw [exec_geometryWrite, request_refuses (by exact hp) (geometryWriteRule_ranges (by exact hm) hg hbad)]
  case capacity =>
    rw [exec_geometryWrite, request_refuses (by exact hp)
      (geometryWriteRule_capacity (by exact hm) hg ((checks_iff g).mpr ⟨hr, hk⟩) (by exact hq))]
  case taken =>
    rw [exec_geometryWrite, request_replies (by exact hp)
      (geometryWriteRule_taken (by exact hs.clean) (by exact hm) hg ((checks_iff g).mpr ⟨hr, hk⟩) (by exact hq)),
      loadGeometry_applied (s := { s.framed 51 with port := .building }) ⟨hs.clean, hs.power, hs.damaged⟩]
    rfl
  case damaged =>
    have hdam : s.geometryDamaged = true := (isDamaged_eq_marked hs.damaged .geometry).trans hd
    rw [exec_offsetNudge, request_refuses (by exact hs.power)
      (offsetNudgeRule_damaged (by exact hs.clean) (by exact hdam) delta)]
  case nudge =>
    have hdam : s.geometryDamaged = false := (isDamaged_eq_marked hs.damaged .geometry).trans hd
    rw [exec_offsetNudge, request_replies (by exact hs.power)
      (offsetNudgeRule_taken (by exact hs.clean) (by exact hdam) (by exact hsum) ho)]
    refine ⟨fun h0 => ?_, fun h0 => ?_⟩
    · rw [if_pos h0]
    · rw [if_neg h0]; rfl

end Sys2Proof.Proofs
end

section
/-! SUPPORT. The read requests: on a clean image each answers its record or table and changes nothing else. -/

namespace Sys2Proof.Proofs

open Sys2Proof Sys2Proof.Machine Sys2Proof.Laws

theorem exec_geometryRead (s : State) : exec .geometryRead s = .next ((s.framed 0).request true geometryReadRule) := rfl
theorem exec_jobRead (b : Byte) (s : State) :
    exec (.jobRead b) s = .next ((s.framed 1).request true (jobReadRule b)) := rfl
theorem exec_laneRead (b : Byte) (s : State) :
    exec (.laneRead b) s = .next ((s.framed 1).request true (laneReadRule b)) := rfl
theorem exec_counterRead (b : Byte) (s : State) :
    exec (.counterRead b) s = .next ((s.framed 1).request true (counterReadRule b)) := rfl
theorem exec_stackRead (b part : Byte) (s : State) :
    exec (.stackRead b part) s = .next ((s.framed 2).request true (stackReadRule b part)) := rfl
theorem exec_rowRead (b part : Byte) (s : State) :
    exec (.rowRead b part) s = .next ((s.framed 2).request true (rowReadRule b part)) := rfl
theorem exec_stackList (sel start : Byte) (s : State) :
    exec (.stackList sel start) s = .next ((s.framed 2).request true (stackListRule sel start)) := rfl

/-! ### The rules of the read requests -/

/-- A request taken by a rule that changes no state changes nothing but the response. -/
theorem request_reads {s : State} {payload : List Byte} (h : s.pfail = false) {act : State → State × Status × List Byte}
    (ha : act { s with port := .building } = reply { s with port := .building } payload) :
    s.request true act = { s with port := .ready (responseFrame .ok payload) } :=
  request_replies (t := { s with port := .building }) h ha

/-- The parts of a record that STACK READ and ROW READ know. -/
theorem part_unknown {part : Byte} (h : 1 < part.toNat) : ¬(part = 0 ∨ part = 1) := by
  rintro (rfl | rfl) <;> exact absurd h (by decide)

section
variable {s : State} (hc : s.clean)
include hc

theorem geometryReadRule_damaged (h : s.geometryDamaged = true) : geometryReadRule s = refuse s .errDamaged := by
  rw [geometryReadRule, readRecord_clean _ s hc]
  exact if_pos h

theorem geometryReadRule_sound (h : s.geometryDamaged = false) :
    geometryReadRule s = reply s (geometryBytes s.memory.geometry) := by
  rw [geometryReadRule, readRecord_clean _ s hc]
  exact if_neg (by rw [h]; decide)

theorem jobReadRule_damaged {b : Byte} {j : JobSlot} (hb : b.toNat = j.val) (h : (s.job j).state = .damaged) :
    jobReadRule b s = refuse s .errDamaged := by
  rw [jobReadRule, indexArg_of hb]
  dsimp only
  rw [readRecord_clean _ s hc, if_pos h]

theorem jobReadRule_sound {b : Byte} {j : JobSlot} (hb : b.toNat = j.val) (h : (s.job j).state ≠ .damaged) :
    jobReadRule b s = reply s (jobReadBytes s j) := by
  rw [jobReadRule, indexArg_of hb]
  dsimp only
  rw [readRecord_clean _ s hc, if_neg h, readOpenStacks_clean hc]

theorem laneReadRule_clean {b : Byte} {l : Lane} (hb : b.toNat = l.val + 1) :
    laneReadRule b s = reply s (laneReadBytes s l) := by
  rw [laneReadRule, laneArg_of hb]
  dsimp only
  rw [readForOpening_clean s l hc]

theorem counterReadRule_clean {b : Byte} {c : CounterNo} (hb : b.toNat = c.val) :
    counterReadRule b s =
      reply s (counterReadBytes s c ++ beBytes 2 s.counters[c].working.toNat ++
        beBytes 2 s.counters[c].published.toNat ++ beBytes 2 s.counters[c].rows) := by
  rw [counterReadRule, indexArg_of hb]
  dsimp only
  rw [readRecord_clean _ s hc]

theorem stackReadRule_clean {b part : Byte} {n : StackNo} (hb : b.toNat = n.val) (hp : part = 0 ∨ part = 1) :
    stackReadRule b part s =
      reply s (if part = 0 then stackPart0 n (s.stack n) else stackPart1 (s.stack n)) := by
  rw [stackReadRule, indexArg_of hb]
  dsimp only
  rw [if_pos hp, readRecord_clean _ s hc]

theorem stackListRule_clean {sel start : Byte} {entries : List (Option StackNo)}
    (he : stackListOf s sel.toNat = some entries) (hs : start.toNat ≤ 63) :
    stackListRule sel start s =
      reply s ([byteOf ((entries.drop start.toNat).take 3).length,
          flagByte (decide (3 < (entries.drop start.toNat).length))] ++
        ((entries.drop start.toNat).take 3).flatMap (listSummary s (sel == 0))) := by
  rw [stackListRule, he]
  dsimp only
  rw [if_neg (Nat.not_lt.mpr hs), readAll_clean _ s hc]

end

section
variable {s : State}

theorem jobReadRule_range {b : Byte} (hb : 16 ≤ b.toNat) : jobReadRule b s = refuse s .errArg := by
  rw [jobReadRule, indexArg_none hb]

theorem laneReadRule_range {b : Byte} (hb : b.toNat = 0 ∨ 12 < b.toNat) : laneReadRule b s = refuse s .errArg := by
  rw [laneReadRule, laneArg_none hb]

theorem counterReadRule_range {b : Byte} (hb : 4 ≤ b.toNat) : counterReadRule b s = refuse s .errArg := by
  rw [counterReadRule, indexArg_none hb]

theorem stackReadRule_range {b part : Byte} (h : 64 ≤ b.toNat ∨ 1 < part.toNat) :
    stackReadRule b part s = refuse s .errArg := by
  unfold stackReadRule
  split
  · rfl
  · next n hn =>
    have hb : b.toNat < 64 := Nat.lt_of_not_le fun hge => by
      rw [indexArg_none hge] at hn
      exact absurd hn nofun
    exact if_neg (part_unknown (h.resolve_left (Nat.not_le.mpr hb)))

/-- R37: ROW READ answers for an open row and for a retired row. -/
theorem rowReadRule_row {b part : Byte} {r : RowRecord} (hp : part = 0 ∨ part = 1)
    (hr : s.rowAt (Fin.ofNat 128 b.toNat) = some r) (ht : r.number.setWidth 8 = b) :
    rowReadRule b part s = reply s (rowPart part r) := by
  have htag : tagOf r.number = b := ht
  rw [rowReadRule, if_pos hp, State.resolveTag, hr]
  dsimp only
  rw [if_pos htag]
  by_cases hret : r.phase = .retired
  · rw [if_pos hret]
  · rw [if_neg hret]

theorem resolveTag_noRow {b : Byte} (h : ∀ r, s.rowAt (Fin.ofNat 128 b.toNat) = some r → r.number.setWidth 8 ≠ b) :
    s.resolveTag b = .noRow := by
  unfold State.resolveTag
  split
  · rfl
  · next r hr => exact if_neg (h r hr)

theorem rowReadRule_range {b part : Byte}
    (h : 1 < part.toNat ∨ ∀ r, s.rowAt (Fin.ofNat 128 b.toNat) = some r → r.number.setWidth 8 ≠ b) :
    rowReadRule b part s = refuse s .errArg := by
  unfold rowReadRule
  split
  · next hp => rw [resolveTag_noRow (h.resolve_left fun hlt => part_unknown hlt hp)]
  · rfl

/-- R117, R192: the code of a QUARANTINED record, whatever its cause. -/
theorem quarantined_iff (st : StackState) :
    st.code = 7 ↔ ∃ c ∈ [QuarantineCause.transfer, .damaged], st = .quarantined c := by
  cases st with
  | quarantined c => cases c <;> simp [StackState.code]
  | _ => simp [StackState.code]

theorem stackListOf_live : stackListOf s 1 =
    some (((List.finRange 64).filter (fun n => decide ((s.stack n).state ≠ .free))).map some) := by
  simp only [stackListOf, bne, Bool.beq_eq_decide_eq, ne_eq, decide_not]

theorem stackListOf_quarantined : stackListOf s 2 =
    some (((List.finRange 64).filter (fun n => decide (∃ c ∈ [QuarantineCause.transfer, .damaged],
      (s.stack n).state = .quarantined c))).map some) := by
  simp only [stackListOf, Bool.beq_eq_decide_eq, quarantined_iff]

/-- R195: the three selectors and their lists. -/
theorem stackListOf_of {sel : Byte} {entries : List (Option StackNo)} (h0 : sel = 0 → entries = s.queue.entries)
    (h1 : sel = 1 → entries = ((List.finRange 64).filter (fun n => decide ((s.stack n).state ≠ .free))).map some)
    (h2 : sel = 2 → entries =
      ((List.finRange 64).filter (fun n => decide (∃ c ∈ [QuarantineCause.transfer, .damaged],
        (s.stack n).state = .quarantined c))).map some) (hsel : sel.toNat ≤ 2) :
    stackListOf s sel.toNat = some entries := by
  have hcases : sel = 0 ∨ sel = 1 ∨ sel = 2 := by bv_omega
  rcases hcases with rfl | rfl | rfl
  · rw [h0 rfl]
    rfl
  · rw [h1 rfl]
    exact stackListOf_live
  · rw [h2 rfl]
    exact stackListOf_quarantined

theorem stackListOf_none {sel : Byte} (h : 2 < sel.toNat) : stackListOf s sel.toNat = none := by
  obtain ⟨k, hk⟩ : ∃ k, sel.toNat = k + 3 := ⟨sel.toNat - 3, by omega⟩
  rw [hk]
  rfl

theorem stackListRule_range {sel start : Byte} (h : 2 < sel.toNat ∨ 63 < start.toNat) :
    stackListRule sel start s = refuse s .errArg := by
  unfold stackListRule
  split
  · rfl
  · next entries he =>
    have hstart : 63 < start.toNat := h.resolve_left fun hlt => by
      rw [stackListOf_none hlt] at he
      exact absurd he nofun
    exact if_pos hstart

end

end Sys2Proof.Proofs
end

section
/-! SUPPORT. The payloads of the read requests, byte by byte, and the codes of their enumerations. -/

namespace Sys2Proof.Proofs

open Sys2Proof Sys2Proof.Machine Sys2Proof.Laws

/-! ### Numbers (R192) -/

theorem beBytes_length (k v : Nat) : (beBytes k v).length = k := by rw [beBytes, List.length_map, List.length_range]

/-- R192: byte `i` of a number, most significant first. -/
theorem beBytes_get {k v i : Nat} {b : Byte} (h : (beBytes k v)[i]? = some b) :
    b.toNat = v / 256 ^ (k - 1 - i) % 256 := by
  obtain ⟨hi, hb⟩ := List.getElem?_eq_some_iff.mp h
  have hpow : 256 ^ (k - 1 - i) = 2 ^ (8 * (k - 1 - i)) := by rw [Nat.pow_mul]
  rw [← hb]
  simp only [beBytes, List.getElem_map, List.getElem_range, BitVec.toNat_ofNat, Nat.shiftRight_eq_div_pow, hpow]

theorem be16s_eq (v : Int) : be16s v = beBytes 2 (v % 65536).toNat := by
  rw [be16s, BitVec.toNat_ofInt]
  rfl

theorem be32s_eq (v : Int) : be32s v = beBytes 4 (v % 4294967296).toNat := by
  rw [be32s, BitVec.toNat_ofInt]
  rfl

/-- R192: the byte of a stack number or a job slot, from the bytes of the numbers and of none. -/
theorem indexByte_of {n : Nat} {number : Option (Fin n) → Byte} (hs : ∀ k, number (some k) = byteOf k.val)
    (hn : number none = 0xFF) : indexByte = number := by
  funext i
  cases i with
  | none => exact hn.symm
  | some k => exact (hs k).symm

/-! ### JOB READ and LANE READ (R107, R115, R193) -/

theorem jobReadBytes_eq (s : State) (j : JobSlot) :
    jobReadBytes s j =
      [byteOf (s.job j).state.code] ++ beBytes 2 (s.job j).jobId.toNat ++ (s.job j).name ++ beBytes 2 (s.job j).target ++
      [ byteOf (s.job j).serialMode.code, byteOf (s.job j).step, byteOf (s.job j).gapLimit, flagByte (s.job j).sampleEnable,
        byteOf (s.job j).sampleValue.toNat, byteOf (s.job j).sampleMask.toNat ] ++
      beBytes 2 (s.job j).nextOrdinal.toNat ++
      [ byteOf ((List.finRange 12).countP (fun l => decide ((s.laneRec l).slot = some j))),
        byteOf (s.openSlots.countP (fun i => (s.rowAt i).any (fun q =>
          q.lanes.toList.any (fun e => decide (e.snapshot = some j))))),
        byteOf ((List.finRange 64).countP (fun n => decide
          ((s.stack n).state = .opened ∧ (s.stack n).slot = j ∧ (s.stack n).jobId = (s.job j).jobId))) ] := by
  simp only [jobReadBytes, jobBytes, State.laneNames, State.referencingRows, State.openStacksOf, Bool.beq_eq_decide_eq,
    Bool.decide_and, Bool.and_assoc, List.cons_append, List.nil_append, List.append_assoc]

theorem runState_byte (r : RunState) :
    r.byte = match r with
      | .off => 0
      | .active => 1
      | .blocked .slots => 2 + 4 * 1
      | .blocked .noRecord => 2 + 4 * 2
      | .jammed => 3 := by
  cases r with
  | blocked c => cases c <;> rfl
  | _ => rfl

theorem laneConfigBytes_eq (s : State) (l : Lane) :
    laneConfigBytes s l =
      if s.isDamaged (.lane l) then (1 :: List.replicate 8 0 : List Byte)
      else
        [ 0, flagByte s.memory.laneRecs[l].enabled,
          match s.memory.laneRecs[l].slot with | none => 0xFF | some j => byteOf j.val ] ++
        beBytes 4 s.memory.laneRecs[l].origin ++
          [byteOf s.memory.laneRecs[l].priority, byteOf s.memory.laneRecs[l].weight] := by
  unfold laneConfigBytes
  dsimp only
  cases s.memory.laneRecs[l].slot <;> rfl

/-- R115: the lane's SEALED records, in ascending stack number. -/
theorem laneStackBytes_eq (s : State) (l : Lane) :
    laneStackBytes s l =
      [ s.openOf l,
        ((List.finRange 64).filter (fun n =>
          decide ((s.stack n).state = .sealed) && decide ((s.stack n).lane = l.val + 1)))[0]?,
        ((List.finRange 64).filter (fun n =>
          decide ((s.stack n).state = .sealed) && decide ((s.stack n).lane = l.val + 1)))[1]?,
        s.heldOf l, s.readyOf l ].map indexByte := by
  simp only [laneStackBytes, Bool.beq_eq_decide_eq, laneNumber, List.map_cons, List.map_nil]

/-! ### STACK READ and STACK LIST (R132, R195, R198) -/

/-- R132, R198: part 1 of a record that is not serialized, or that is reported as damaged. -/
theorem stackPart1_none {r : StackRecord} (h : r.reported.serial = none) :
    stackPart1 r = beBytes 4 (15 * 2 ^ 27) ++ List.replicate 56 0 := by
  rw [stackPart1, h]

/-- R132: a record that is reported with a serial part is reported as it stands. -/
theorem reported_serial {r : StackRecord} {sp : SerialPart} (h : r.reported.serial = some sp) : r.reported = r := by
  unfold StackRecord.reported at h ⊢
  split
  · next hd => rw [if_pos hd] at h; exact absurd h nofun
  · rfl

/-- R195: the summaries under the selector; under QUEUE a record found damaged is void. -/
theorem listSummary_eq (s : State) (sel : Byte) :
    listSummary s (sel == 0) = fun e => match e with
      | none => voidSummary
      | some n =>
        if sel = 0 ∧ (s.stack n).state = .quarantined .damaged then voidSummary else stackSummary n (s.stack n) := by
  funext e
  cases e with
  | none => rfl
  | some n => simp only [listSummary, Bool.and_eq_true, beq_iff_eq]

theorem serialField_eq (v : Option Nat) : serialField v = v.getD 0x7FFFFFF := by cases v <;> rfl

theorem stackPart1_some {r : StackRecord} {sp : SerialPart} (h : r.reported.serial = some sp) :
    stackPart1 r =
      beBytes 4 ((sp.first.getD 0x7FFFFFF) + 2 ^ 27 * sp.gaps.length +
        (if r.reported.flags.gapsIncomplete then 2 ^ 31 else 0)) ++
      beBytes 4 ((sp.lastCommitted.getD 0x7FFFFFF) + 2 ^ 27 * sp.foreseen) ++
      beBytes 4 (sp.lastLanded.getD 0x7FFFFFF) ++
      (sp.gaps.take 8).flatMap (fun g =>
        beBytes 4 (g.start + 2 ^ 27 * causeCode (some g.cause)) ++ beBytes 2 g.length) ++
      List.replicate (6 * (8 - sp.gaps.length)) 0 := by
  rw [stackPart1, h, reported_serial h]
  simp only [serialField_eq]
  rfl

/-! ### ROW READ (R38, R39, R198) -/

/-- R38: what ROW READ shows as finished. -/
theorem shownFinished_eq (r : RowRecord) :
    r.shownFinished = (decide (r.phase = .retired) || decide (r.phase = .decided) &&
      r.lanes.toList.all (fun e => decide (e.landing ≠ .awaiting))) := by
  simp only [RowRecord.shownFinished, RowRecord.finished, bne, Bool.beq_eq_decide_eq, ne_eq, decide_not]

theorem laneEntryBytes_eq (e : LaneEntry) :
    laneEntryBytes e =
      [ match e.snapshot with | none => 16 | some j => byteOf j.val,
        byteOf (e.camera.code + (if e.manual then 4 else 0) + 8 * e.disposition.code + 32 * e.landing.code),
        match e.disposition with
        | .waste w => byteOf w.code
        | .stack n => byteOf n.val
        | _ => 0 ] := rfl

/-- Settles O59, by the requests, then by the payloads. -/
theorem readRequestsChangeOnlyTheResponse : Obligations.ReadRequestsChangeOnlyTheResponse := by
  refine ⟨fun s hc hp => ⟨?geometry,
      fun b => ⟨fun j hb => ?job, fun hb => ?jobRange, fun l hb => ?lane, fun hb => ?laneRange,
        fun c hb => ?counter, fun hb => ?counterRange, fun n hb => ?stack, fun part hb => ?stackRange,
      fun r hr ht => ?row, fun part hb => ?rowRange⟩,
      fun sel start entries rest hs h0 h1 h2 hrest hsel => ?list, fun sel start h => ?listRange⟩,
    fun k v => ⟨beBytes_length k v, fun i b => beBytes_get⟩, fun v => ⟨be16s_eq v, be32s_eq v⟩,
    fun g t ht => ?geometryBytes, fun s j r hr => ?jobBytes,
    fun s l r u sealed hr hu hsealed number hsome hnone => ?laneBytes,
    fun n r q head hq hh => ?stackBytes, rfl, fun r => ⟨?rowBytes, rfl⟩, fun s c k hk => ?counterBytes, ?codes⟩
  case geometry =>
    rw [exec_geometryRead]
    cases hd : s.geometryDamaged with
    | true => rw [request_refuses (by exact hp) (geometryReadRule_damaged (by exact hc) (by exact hd))]; rfl
    | false => rw [request_reads (by exact hp) (geometryReadRule_sound (by exact hc) (by exact hd))]; rfl
  case job =>
    rw [exec_jobRead]
    by_cases hd : (s.job j).state = .damaged
    · rw [request_refuses (by exact hp) (jobReadRule_damaged (by exact hc) hb (by exact hd)), if_pos hd]
    · rw [request_reads (by exact hp) (jobReadRule_sound (by exact hc) hb (by exact hd)), if_neg hd]
      rfl
  case jobRange => rw [exec_jobRead, request_refuses (by exact hp) (jobReadRule_range hb)]
  case lane =>
    rw [exec_laneRead, request_reads (by exact hp) (laneReadRule_clean (by exact hc) hb)]
    rfl
  case laneRange => rw [exec_laneRead, request_refuses (by exact hp) (laneReadRule_range hb)]
  case counter =>
    rw [exec_counterRead, request_reads (by exact hp) (counterReadRule_clean (by exact hc) hb)]
    rfl
  case counterRange => rw [exec_counterRead, request_refuses (by exact hp) (counterReadRule_range hb)]
  case stack =>
    refine ⟨?_, ?_⟩
    · rw [exec_stackRead, request_reads (by exact hp) (stackReadRule_clean (by exact hc) hb (.inl rfl))]
      rfl
    · rw [exec_stackRead, request_reads (by exact hp) (stackReadRule_clean (by exact hc) hb (.inr rfl))]
      rfl
  case stackRange => rw [exec_stackRead, request_refuses (by exact hp) (stackReadRule_range hb)]
  case row =>
    refine ⟨?_, ?_⟩
    · rw [exec_rowRead, request_reads (by exact hp) (rowReadRule_row (.inl rfl) (by exact hr) ht)]
      rfl
    · rw [exec_rowRead, request_reads (by exact hp) (rowReadRule_row (.inr rfl) (by exact hr) ht)]
      rfl
  case rowRange => rw [exec_rowRead, request_refuses (by exact hp) (rowReadRule_range (by exact hb))]
  case list =>
    have he : stackListOf s sel.toNat = some entries := stackListOf_of h0 h1 h2 hsel
    rw [exec_stackList, request_reads (by exact hp) (stackListRule_clean (by exact hc) (by exact he) hs), ← hrest,
      List.length_take, listSummary_eq]
    rfl
  case listRange => rw [exec_stackList, request_refuses (by exact hp) (stackListRule_range h)]
  case geometryBytes => subst ht; rfl
  case jobBytes => subst hr; exact jobReadBytes_eq s j
  case laneBytes =>
    subst hr hu hsealed
    rw [laneReadBytes, laneConfigBytes_eq, laneStackBytes_eq, indexByte_of hsome hnone, laneRuntimeBytes,
      runState_byte]
    simp only [← List.append_assoc]
    rfl
  case stackBytes =>
    have hq' : q = r.reported := hq
    subst hq' hh
    exact ⟨rfl, rfl, stackPart1_none, fun sp => stackPart1_some⟩
  case rowBytes =>
    rw [rowPart0, shownFinished_eq, Bool.beq_eq_decide_eq]
    rfl
  case counterBytes => subst hk; rfl
  case codes =>
    exact ⟨rfl, rfl, rfl, rfl, rfl, rfl, rfl, rfl, rfl, fun _ => rfl, rfl, rfl, rfl, rfl, rfl, rfl, rfl, rfl, rfl, rfl, rfl,
      rfl, rfl⟩

end Sys2Proof.Proofs
end

section
/-! SUPPORT. Die register control: the arithmetic of the register loop, and the association of a die index pulse with a
row. -/

namespace Sys2Proof.Proofs

open Sys2Proof Sys2Proof.Machine Sys2Proof.Laws

theorem exec_dieIndex (s : State) : exec .dieIndex s = .next s.takeDieIndex := rfl

/-! ### Rounding (R67) and the slew clamp (R68) -/

/-- A whole step is never rounded past its own size, since half of `n` is less than `n`. -/
theorem rounded_le {n : Nat} (hn : 0 < n) (x : Nat) : (x + n / 2) / n ≤ x := by
  have hhalf : n / 2 < n := Nat.div_lt_self hn Nat.one_lt_two
  have hx : x * 1 ≤ x * n := Nat.mul_le_mul_left x hn
  refine Nat.le_of_lt_succ ((Nat.div_lt_iff_lt_mul hn).mpr ?_)
  rw [Nat.succ_mul]
  omega

theorem rounded_zero (n : Nat) : (0 + n / 2) / n = 0 := by
  rcases Nat.eq_zero_or_pos n with rfl | hn
  · rfl
  · exact Nat.le_zero.mp (rounded_le hn 0)

theorem roundAway_nonneg {x : Int} (h : 0 ≤ x) (n : Nat) : roundAway x n = ((x.toNat + n / 2) / n : Nat) := by
  rw [roundAway, if_neg (by omega), show x.natAbs = x.toNat by omega]

theorem roundAway_nonpos {x : Int} (h : x ≤ 0) (n : Nat) : roundAway x n = -(((-x).toNat + n / 2) / n : Nat) := by
  rcases Int.lt_or_eq_of_le h with h | rfl
  · rw [roundAway, if_pos h, show x.natAbs = (-x).toNat by omega]
  · rw [roundAway_nonneg (Int.le_refl 0), Int.neg_zero, Int.toNat_zero, rounded_zero]
    rfl

/-- R67: the step of F16 when the sample lies at or above it. -/
theorem filterNext_up {f16 e : Int} (h : 0 ≤ 16 * e - f16) (k : Nat) :
    filterNext f16 e k = f16 + (((16 * e - f16).toNat + 2 ^ k / 2) / 2 ^ k : Nat) := by
  rw [filterNext, roundAway_nonneg h]

/-- R67: the step of F16 when the sample lies below it. -/
theorem filterNext_down {f16 e : Int} (h : 16 * e - f16 < 0) (k : Nat) :
    filterNext f16 e k = f16 - (((f16 - 16 * e).toNat + 2 ^ k / 2) / 2 ^ k : Nat) := by
  rw [filterNext, roundAway_nonpos (Int.le_of_lt h), Int.neg_sub]
  exact Int.sub_eq_add_neg.symm

theorem clampInt_bounds {lo hi : Int} (h : lo ≤ hi) (x : Int) : lo ≤ clampInt lo hi x ∧ clampInt lo hi x ≤ hi := by
  unfold clampInt
  omega

/-- R68: the correction for an F16 that is not negative. -/
theorem correctionOf_nonneg {f16 : Int} (h : 0 ≤ f16) (gain slew : Nat) :
    correctionOf f16 gain slew = min (slew : Int) (((f16.toNat * gain + 128) / 256 : Nat) : Int) := by
  rw [correctionOf, roundAway_nonneg (Int.mul_nonneg h (Int.natCast_nonneg gain)), Int.toNat_mul h (Int.natCast_nonneg gain),
    Int.toNat_natCast, clampInt]
  generalize (f16.toNat * gain + 128) / 256 = step
  omega

/-- R68: the correction for a negative F16. -/
theorem correctionOf_neg {f16 : Int} (h : f16 < 0) (gain slew : Nat) :
    correctionOf f16 gain slew = max (-(slew : Int)) (-((((-f16).toNat * gain + 128) / 256 : Nat) : Int)) := by
  have hx : f16 * gain ≤ 0 := Int.mul_nonpos_of_nonpos_of_nonneg (Int.le_of_lt h) (Int.natCast_nonneg gain)
  have hn : (-(f16 * gain)).toNat = (-f16).toNat * gain := by
    rw [← Int.neg_mul, Int.toNat_mul (by omega) (Int.natCast_nonneg gain), Int.toNat_natCast]
  rw [correctionOf, roundAway_nonpos hx, hn, clampInt]
  generalize ((-f16).toNat * gain + 128) / 256 = step
  omega

/-- Settles O21, by the sign of the step and of F16. -/
theorem registerLoopRoundsAndNeverOvershoots : Obligations.RegisterLoopRoundsAndNeverOvershoots := by
  refine ⟨fun f16 e k => ⟨fun h => ?up, fun h => ?down, ?whole⟩, fun f16 gain slew => ⟨?_, ?_, fun h => ?_, fun h => ?_⟩⟩
  case up =>
    have hle := rounded_le (Nat.two_pow_pos k) (16 * e - f16).toNat
    refine ⟨filterNext_up h k, ?_⟩
    rw [filterNext_up h]
    generalize ((16 * e - f16).toNat + 2 ^ k / 2) / 2 ^ k = d at hle
    omega
  case down =>
    have hle := rounded_le (Nat.two_pow_pos k) (f16 - 16 * e).toNat
    refine ⟨filterNext_down h k, ?_⟩
    rw [filterNext_down h]
    generalize ((f16 - 16 * e).toNat + 2 ^ k / 2) / 2 ^ k = d at hle
    omega
  case whole =>
    rcases Int.lt_or_le (16 * e - f16) 0 with h | h
    · rw [filterNext_down h]
      omega
    · rw [filterNext_up h]
      omega
  · exact (clampInt_bounds (by omega) _).1
  · exact (clampInt_bounds (by omega) _).2
  · exact correctionOf_nonneg h gain slew
  · exact correctionOf_neg h gain slew

/-! ### One sample through the loop (R65, R67 to R69) -/

/-- R67 to R69: a sample that is no outlier moves F16 and takes the correction off T, within ±L_trim. -/
theorem registerLoop_eq {g : Settings} {f16 trim e f c : Int} (hf : f = filterNext f16 e g.filterShift)
    (hc : c = correctionOf f g.gain g.slew) :
    registerLoop g f16 trim e =
      { f16 := if g.wOut < e.natAbs then f16 else f
        trim := if g.wOut < e.natAbs then trim else max (-(g.lTrim : Int)) (min g.lTrim (trim - c))
        outlier := decide (g.wOut < e.natAbs)
        limited := decide (e.natAbs ≤ g.wOut ∧ (trim - c < -(g.lTrim : Int) ∨ (g.lTrim : Int) < trim - c)) } := by
  subst hf hc
  by_cases ho : g.wOut < e.natAbs
  · rw [registerLoop, if_pos (Int.ofNat_lt.mpr ho)]
    simp only [ho, Nat.not_le.mpr ho, if_true, decide_true, false_and, decide_false]
  · rw [registerLoop, if_neg (fun h => ho (Int.ofNat_lt.mp h))]
    simp only [ho, Nat.not_lt.mp ho, if_false, decide_false, true_and]
    rfl

/-! ### Association (R64) -/

/-- R64: the test by which the row of a die index pulse is found. -/
theorem dieWindowHas_iff (s : State) (p : Pos) (q : RowRecord) :
    s.dieWindowHas p q = true ↔ q.phase = .opened ∧ (posDiff p q.expected).natAbs ≤ s.work.wDie := by
  simp only [State.dieWindowHas, Bool.and_eq_true, beq_iff_eq, decide_eq_true_eq]

theorem takeDieIndex_back {s : State} (h : posBefore s.position.position s.position.highWater) :
    s.takeDieIndex = { s with register := { s.register with backIndex := satInc s.register.backIndex } } := if_pos h

theorem takeDieIndex_stray {s : State} (hb : ¬posBefore s.position.position s.position.highWater)
    (h : s.noOpen (fun r => r.phase = .opened ∧ (posDiff s.position.position r.expected).natAbs ≤ s.work.wDie)) :
    s.takeDieIndex = { s with register := { s.register with strayIndex := satInc s.register.strayIndex } } := by
  rw [State.takeDieIndex, if_neg hb, findOpen_none (dieWindowHas_iff s _) h]

theorem takeDieIndex_associates {s : State} {i : RingSlot} {r : RowRecord}
    (hb : ¬posBefore s.position.position s.position.highWater)
    (h : s.firstOpen (fun q => q.phase = .opened ∧ (posDiff s.position.position q.expected).natAbs ≤ s.work.wDie) i r) :
    s.takeDieIndex = s.associate i r s.position.position := by
  rw [State.takeDieIndex, if_neg hb, findOpen_first (dieWindowHas_iff s _) h]
  simp only [firstOpen_rowAt h]

/-- R64 to R70: an association, from what the loop answers for the row's raw error. -/
theorem associate_eq {s : State} {i : RingSlot} {r row : RowRecord} {p : Pos} {res : LoopResult}
    (hres : registerLoop s.work s.register.f16 s.register.trim (rawErrorOf p r.expected) = res)
    (hrow : associatedRow s.work r p res = row) :
    s.associate i r p =
      State.queueTrim
        { s with
            ring := { s.ring with slots := vset s.ring.slots i (some row) }
            register := { s.register with
              f16 := res.f16
              trim := res.trim
              outliers := if res.outlier then satInc s.register.outliers else s.register.outliers }
            attention :=
              if res.limited then { s.attention with latched := s.attention.latched ||| Attention.trimSaturated.set }
              else s.attention }
        { tag := row.number.setWidth 8, trim := res.trim, held := row.flags.trimHeld, limit := row.flags.trimLimit,
          misreg := row.flags.misreg, miscut := row.flags.miscut, settling := row.flags.settling } := by
  subst hres hrow
  rw [State.associate]
  split <;> rfl

/-- Settles O20, by the place of the pulse and by whether its sample is an outlier. -/
theorem dieIndexIsAssociatedWithOldestOpenWindow : Obligations.DieIndexIsAssociatedWithOldestOpenWindow := by
  refine ⟨fun s => ⟨fun hb => ?_, fun hb h => ?_⟩, fun s i r e f c hb h he hf hc row hrow trim htrim => ?_⟩
  · rw [exec_dieIndex, takeDieIndex_back hb]
  · rw [exec_dieIndex, takeDieIndex_stray hb h]
  · subst hrow
    have hraw : rawErrorOf s.position.position r.expected = e := he.symm
    have hloop := registerLoop_eq (g := s.work) (trim := s.register.trim) hf hc
    rw [← htrim] at hloop
    rw [exec_dieIndex, takeDieIndex_associates hb h, associate_eq (hraw ▸ hloop) rfl]
    simp only [decide_eq_true_eq, associatedRow, hraw, Int.ofNat_lt]

end Sys2Proof.Proofs
end

section
/-! SUPPORT. The trim transmitter, and what PFAIL does at its assertion. -/

namespace Sys2Proof.Proofs

open Sys2Proof Sys2Proof.Machine Sys2Proof.Laws

/-! ### The bytes of a trim message (R196) -/

theorem testBit_bitsOf (bs : List Bool) (i : Nat) : (bitsOf bs).testBit i = bs.getD i false := by
  induction bs generalizing i with
  | nil => simp [bitsOf]
  | cons b bs ih =>
    cases i with
    | zero => cases b <;> simp [bitsOf, Nat.testBit_zero, Nat.add_mod]
    | succ i =>
      have hhalf : ((if b then 1 else 0) + 2 * bitsOf bs) / 2 = bitsOf bs := by split <;> omega
      rw [bitsOf, Nat.testBit_succ, hhalf, ih, List.getD_cons_succ]

/-- R192, R196: a byte of at most eight flags, flag by flag. -/
theorem flagsByte_bit {bs : List Bool} (h : bs.length ≤ 8) (i : Nat) : (byteOf (bitsOf bs)).getLsbD i = bs.getD i false := by
  rw [byteOf, BitVec.getLsbD_ofNat, testBit_bitsOf]
  by_cases hi : i < 8
  · simp only [hi, decide_true, Bool.true_and]
  · rw [List.getD_eq_getElem?_getD, List.getElem?_eq_none (by omega), Option.getD_none, Bool.and_false]

/-- R192: the two bytes of a signed 16-bit number spell it modulo 2^16. -/
theorem be16s_bytes (v : Int) : ∃ high low : Byte, be16s v = [high, low] ∧
    ((256 * high.toNat + low.toNat : Nat) : Int) = v % 65536 := by
  rw [be16s_eq]
  match hb : beBytes 2 (v % 65536).toNat, beBytes_length 2 (v % 65536).toNat with
  | [high, low], _ =>
    have hhigh := beBytes_get (i := 0) (congrArg (·[0]?) hb)
    have hlow := beBytes_get (i := 1) (congrArg (·[1]?) hb)
    refine ⟨high, low, rfl, ?_⟩
    omega

/-! ### Sending in order (R70, R71) -/

theorem exec_trimMessageSent (s : State) : exec .trimMessageSent s = .next s.messageSent := rfl

theorem trimBytes_length (m : TrimMessage) : (trimBytes m).length = 6 := by
  simp [trimBytes, be16s, beBytes_length]

/-- R71: the end of a message puts out its six characters. -/
theorem putTrim_whole {s : State} {m : TrimMessage} {rate : LinkRate} (h : s.register.sending = some (m, rate)) :
    s.putTrim 6 = { s with outputs := .trim (trimBytes m) rate :: s.outputs } := by
  rw [putTrim_sending h (by decide), List.take_of_length_le (Nat.le_of_eq (trimBytes_length m))]

theorem messageSent_idle {s : State} (h : s.register.sending = none) : s.messageSent = s := by
  rw [State.messageSent, h]

theorem messageSent_last {s : State} {m : TrimMessage} {rate : LinkRate} (h : s.register.sending = some (m, rate))
    (hw : s.register.waiting = []) :
    s.messageSent =
      { s with
          register := { s.register with sending := none }
          outputs := .trim (trimBytes m) rate :: s.outputs } := by
  rw [State.messageSent, h, hw, putTrim_whole h]

theorem messageSent_next {s : State} {now m : TrimMessage} {rate : LinkRate} {ms : List TrimMessage}
    (h : s.register.sending = some (now, rate)) (hw : s.register.waiting = m :: ms) :
    s.messageSent =
      { s with
          register := { s.register with waiting := ms, sending := some (m, s.work.trimRate) }
          outputs := .trim (trimBytes now) rate :: s.outputs } := by
  rw [State.messageSent, h, hw, putTrim_whole h]
  rfl

theorem queueTrim_idle {s : State} (m : TrimMessage) (h : s.register.sending = none) :
    s.queueTrim m = { s with register := { s.register with sending := some (m, s.work.trimRate) } } := by
  rw [State.queueTrim, h]
  rfl

theorem queueTrim_waits {s : State} {now : TrimMessage × LinkRate} (m : TrimMessage) (h : s.register.sending = some now)
    (hw : s.register.waiting.length < 4) :
    s.queueTrim m = { s with register := { s.register with waiting := s.register.waiting ++ [m] } } := by
  rw [State.queueTrim, h]
  exact if_pos hw

theorem queueTrim_displaces {s : State} {now : TrimMessage × LinkRate} (m : TrimMessage)
    (h : s.register.sending = some now) (hw : 4 ≤ s.register.waiting.length) :
    s.queueTrim m =
      { s with register := { s.register with
          waiting := s.register.waiting.tail ++ [m], overruns := satInc s.register.overruns } } := by
  rw [State.queueTrim, h]
  exact if_neg (Nat.not_lt.mpr hw)

/-- Settles O23, by the state of the transmitter and the messages that wait. -/
theorem trimTransmitterSendsInOrder : Obligations.TrimTransmitterSendsInOrder := by
  refine ⟨fun s => ⟨fun h => ?_, fun now rate h => ⟨fun hw => ?_, fun m ms hw => ?_⟩,
    fun m => ⟨queueTrim_idle m, fun now h hw => queueTrim_waits m h hw, fun now h hw => queueTrim_displaces m h hw⟩⟩,
    fun m => ?_⟩
  · rw [exec_trimMessageSent, messageSent_idle h]
  · rw [exec_trimMessageSent, messageSent_last h hw]
  · rw [exec_trimMessageSent, messageSent_next h hw]
  · obtain ⟨high, low, hb, hv⟩ := be16s_bytes m.trim
    refine ⟨high, low, byteOf (bitsOf [m.held, m.limit, m.misreg, m.miscut, m.settling]), ?_, hv, ?_⟩
    · rw [trimBytes, hb]
      rfl
    · exact flagsByte_bit (by simp)

/-! ### The assertion of PFAIL (R76, R185) -/

theorem exec_pfailAssert (s : State) : exec .pfailAssert s = .next s.assertPfail := rfl
theorem exec_savedTrimWrite (s : State) : exec .savedTrimWrite s = .next s.writeSavedTrim := rfl

/-- R185: what the assertion of PFAIL does, the first time. -/
theorem assertPfail_asserts {s : State} (h : s.pfail = false) :
    s.assertPfail =
      { s with
          pfail := true
          lanes := vtab (fun l => { s.lanes[l] with gate := .waste })
          memory := { s.memory with trimToSave := if s.geometryDamaged then none else some s.register.trim } } :=
  if_neg (by simp [h])

section
variable {s t : State} {v : Int} (hv : s.memory.trimToSave = some v)
  (ht : t = readRecord .geometry { s with memory := { s.memory with trimToSave := none } })
include hv ht

/-- R76: T handed over is not written into a record that its read finds damaged. -/
theorem writeSavedTrim_damaged (h : t.geometryDamaged = true) : s.writeSavedTrim = t := by
  simp only [State.writeSavedTrim, hv, ← ht]
  exact if_pos h

/-- R76, R180: T handed over is written, and the words stored get fresh check bits. -/
theorem writeSavedTrim_writes (h : t.geometryDamaged = false) :
    s.writeSavedTrim =
      (t.setGeometry { t.memory.geometry with savedTrim := v }).clearWords .geometry Config.savedTrimWord := by
  simp only [State.writeSavedTrim, hv, ← ht]
  exact if_neg (by simp [h])

end

/-- R180: the flipped bits left in the words of a record that a write does not store. -/
theorem clearWords_eq (s : State) (ref : RecordRef) (stored : Nat → Bool) :
    s.clearWords ref stored =
      { s with memory := { s.memory with
          flips := s.memory.flips.filter (fun b => !decide (b.ref = ref) || !stored b.word) } } := by
  simp only [State.clearWords, Bool.not_and, Bool.beq_eq_decide_eq]

/-- R76: on a clean image T handed over becomes the saved trim, unless the record is damaged. -/
theorem writeSavedTrim_clean {s : State} {v : Int} (hc : s.clean) (hv : s.memory.trimToSave = some v) :
    s.writeSavedTrim =
      { s with memory := { s.memory with
          trimToSave := none
          geometry := if s.geometryDamaged then s.memory.geometry else { s.memory.geometry with savedTrim := v } } } := by
  have ht := (readRecord_clean .geometry { s with memory := { s.memory with trimToSave := none } } (by exact hc)).symm
  cases hd : s.geometryDamaged with
  | true => exact writeSavedTrim_damaged hv ht hd
  | false =>
    rw [writeSavedTrim_writes hv ht hd]
    exact clearWords_clean _ _ (by exact hc)

/-- Settles O49, by the level of PFAIL and by what was handed over. -/
theorem pfailHoldsGatesAndSavesTrim : Obligations.PfailHoldsGatesAndSavesTrim := by
  refine fun s => ⟨fun h => ?_, fun h => ?_, fun h => ?_, fun v hc hv => ?_, fun v t hv ht => ⟨fun hd => ?_, fun hd => ?_⟩⟩
  · rw [exec_pfailAssert, State.assertPfail, if_pos h]
  · rw [exec_pfailAssert, assertPfail_asserts h]
  · rw [exec_savedTrimWrite, writeSavedTrim_none h]
  · rw [exec_savedTrimWrite, writeSavedTrim_clean hc hv]
  · rw [exec_savedTrimWrite, writeSavedTrim_damaged hv ht hd]
  · rw [exec_savedTrimWrite, writeSavedTrim_writes hv ht hd, clearWords_eq]
    rfl

end Sys2Proof.Proofs
end

section
/-! SUPPORT. The reset sequence with PFAIL asserted before one of its steps, the commands that run it, and the reset of a part
in its reset state. -/

namespace Sys2Proof.Proofs

open Sys2Proof Sys2Proof.Machine Sys2Proof.Laws

/-! ### The three resets (R186, R187, R191) -/

theorem exec_coldReset (c : ResetCourse) (s : State) :
    exec (.coldReset c) s = .next { (s.edgesAtReset c).resetPart true c.pfailFrom with port := .empty } := rfl

theorem exec_pfailNegate (c : ResetCourse) (s : State) : exec (.pfailNegate c) s = .next (s.negatePfail c) := rfl

theorem exec_reset (c : ResetCourse) (s : State) :
    exec (.reset c) s = .next ((s.framed 0).request true (resetRule c)) := rfl

/-- R191: RESET by its own rule: the warm reset, answered OK with no payload. -/
theorem resetRule_eq (c : ResetCourse) (s : State) :
    resetRule c s = reply ((s.edgesAtReset c).resetPart false c.pfailFrom) [] := rfl

theorem negatePfail_stays {s : State} (h : s.pfail = false) (c : ResetCourse) : s.negatePfail c = s := if_neg (by simp [h])

/-- R186: at the negation of PFAIL the warm reset follows the write of the saved trim. -/
theorem negatePfail_resets {s : State} (h : s.pfail = true) (c : ResetCourse) :
    s.negatePfail c =
      { (s.writeSavedTrim.edgesAtReset c).resetPart false c.pfailFrom with port := .empty } := if_pos h

/-! ### PFAIL during a reset (R186, log entry 15) -/

/-- R186: the steps of a list run one after the other, with PFAIL at one level. -/
abbrev runUnder (level : Bool) (fs : List ResetStep) (s : State) : State :=
  fs.foldl (fun t f => f { t with pfail := level }) s

/-- From the assertion of PFAIL on every step runs under it. -/
theorem runSteps_asserted {i k : Nat} (h : i ≤ k) (fs : List ResetStep) (s : State) :
    runSteps (some i) k fs s = { runUnder true fs s with pfail := true } := by
  induction fs generalizing k s with
  | nil => rfl
  | cons f fs ih =>
    have hlevel : pfailAt (some i) k = true := decide_eq_true h
    rw [runSteps, hlevel, ih (by omega), runUnder, runUnder, List.foldl_cons]

/-- PFAIL asserted `i` steps ahead: those run without it, and the others under it. -/
theorem runSteps_ahead (i k : Nat) (fs : List ResetStep) (s : State) :
    runSteps (some (k + i)) k fs s =
      { runUnder true (fs.drop i) (runUnder false (fs.take i) s) with pfail := true } := by
  induction fs generalizing i k s with
  | nil => simp [runSteps]
  | cons f fs ih =>
    cases i with
    | zero => exact runSteps_asserted (Nat.le_refl k) (f :: fs) s
    | succ i =>
      have hlevel : pfailAt (some (k + (i + 1))) k = false := decide_eq_false (by omega)
      rw [runSteps, hlevel, show k + (i + 1) = k + 1 + i by omega, ih i (k + 1)]
      rfl

theorem resetPart_asserted (s : State) (cold : Bool) (i : Nat) :
    s.resetPart cold (some i) =
      { runUnder true ((resetSteps cold).drop i)
          (runUnder false ((resetSteps cold).take i) ((s.beforeScan cold).resetVolatile cold)) with pfail := true } := by
  have h := runSteps_ahead i 0 (resetSteps cold) ((s.beforeScan cold).resetVolatile cold)
  rwa [Nat.zero_add] at h

theorem resetPart_alone (s : State) (cold : Bool) :
    s.resetPart cold none =
      { runUnder false (resetSteps cold) ((s.beforeScan cold).resetVolatile cold) with pfail := false } :=
  runSteps_none _ 0 _

/-- R186: PFAIL asserted in a reset stands asserted at its end. -/
theorem resetPart_pfail (s : State) (cold : Bool) (p : Option Nat) : (s.resetPart cold p).pfail = p.isSome := by
  cases p with
  | none => rw [resetPart_alone]; rfl
  | some i => rw [resetPart_asserted]; rfl

theorem laneSteps_length (l : Lane) : (laneSteps l).length = 66 := by
  rw [laneSteps, List.length_cons, List.length_append, List.length_map, List.length_finRange, List.length_singleton]

theorem flatMap_laneSteps_length (ls : List Lane) : (ls.flatMap laneSteps).length = 66 * ls.length := by
  induction ls with
  | nil => rfl
  | cons l ls ih =>
    rw [List.flatMap_cons, List.length_append, laneSteps_length, ih, List.length_cons]
    omega

theorem allRecords_length : allRecords.length = 97 := by
  simp only [allRecords, List.length_append, List.length_map, List.length_finRange, List.length_singleton]

theorem scanSteps_length : scanSteps.length = 97 := by rw [scanSteps, List.length_map, allRecords_length]

theorem tableSteps_length : tableSteps.length = 17 := by
  rw [tableSteps, List.length_append, List.length_map, List.length_finRange, List.length_singleton]

theorem stackSteps_length : stackSteps.length = 856 := by
  rw [stackSteps, List.length_append, List.length_map, flatMap_laneSteps_length, List.length_finRange, List.length_finRange]

/-- R187: the number of steps of a reset. -/
theorem resetSteps_length (cold : Bool) : (resetSteps cold).length = 974 := by
  have hlast : (lastSteps cold).length = 3 := rfl
  rw [resetSteps, List.length_append, List.length_cons, List.length_append, List.length_append, scanSteps_length,
    tableSteps_length, stackSteps_length, hlast]

/-- PFAIL asserted after the last step of a reset changes nothing else. -/
theorem resetPart_after_last {i : Nat} (h : 974 ≤ i) (s : State) (cold : Bool) :
    s.resetPart cold (some i) = { s.resetPart cold none with pfail := true } := by
  have hlen : (resetSteps cold).length ≤ i := Nat.le_trans (Nat.le_of_eq (resetSteps_length cold)) h
  -- The state after the steps gets a name, or the kernel runs them to compare its fields.
  obtain ⟨u, hu⟩ : ∃ u, u = runUnder false (resetSteps cold) ((s.beforeScan cold).resetVolatile cold) := ⟨_, rfl⟩
  rw [resetPart_asserted, resetPart_alone, List.drop_of_length_le hlen, List.take_of_length_le hlen, runUnder,
    List.foldl_nil, ← hu]

/-! ### What the steps under PFAIL leave alone (R185, R187) -/

/-- R187: RECORD_DAMAGED raised touches the attention logic alone. -/
theorem raiseIfDamaged_frame (s : State) (refs : List RecordRef) :
    s.raiseIfDamaged refs = { s with attention := (s.raiseIfDamaged refs).attention } := by
  unfold State.raiseIfDamaged
  split <;> rfl

/-- R141, R156: no grant is made under PFAIL. -/
theorem grant_power {s : State} (h : s.pfail = true) : s.grant = s := grant_stays (by simp [State.canGrant, h])

/-- R185, R187: on a clean image no step of a reset under PFAIL writes the record memory. -/
theorem resetStep_keeps_memory (cold : Bool) {f : ResetStep} (hf : f ∈ resetSteps cold) {t : State}
    (hc : t.memory.flips = []) (hp : t.pfail = true) : (f t).memory = t.memory := by
  have hno : ∀ q : Prop, ¬(t.pfail = false ∧ q) := by simp [hp]
  simp only [resetSteps, scanSteps, tableSteps, stackSteps, laneSteps, lastSteps, List.mem_cons, List.mem_append,
    List.mem_map, List.mem_flatMap, List.not_mem_nil, or_false] at hf
  rcases hf with
    ⟨r, _, rfl⟩ | rfl | ((⟨j, _, rfl⟩ | rfl) | ⟨n, _, rfl⟩ | ⟨l, _, rfl | ⟨n, _, rfl⟩ | rfl⟩) | rfl | rfl | rfl
  · rw [scanRecord_clean r t hc]
  · change (t.restoreGeometry cold).memory = t.memory
    rw [State.restoreGeometry, raiseIfDamaged_frame]
  · exact congrArg State.memory (if_neg (hno _) : t.restoreJob j = t)
  · rw [State.restoreLanes, raiseIfDamaged_frame]
  · exact congrArg State.memory (if_pos hp : t.restoreStack n = t)
  · exact congrArg State.memory (if_neg (hno _) : t.restoreSeal l = t)
  · exact congrArg State.memory (if_neg (hno _) : t.restoreComplete l n = t)
  · exact congrArg State.memory (if_pos hp : t.restorePush l = t)
  · rfl
  · exact congrArg State.memory (grant_power hp)
  · change (t.restoreCounters cold).memory = t.memory
    rw [State.restoreCounters, raiseIfDamaged_frame]

theorem runUnder_keeps_memory {level : Bool} {fs : List ResetStep} {s : State} (hc : s.memory.flips = [])
    (hf : ∀ f ∈ fs, ∀ t : State, t.memory.flips = [] → t.pfail = level → (f t).memory = t.memory) :
    (runUnder level fs s).memory = s.memory := by
  induction fs generalizing s with
  | nil => rfl
  | cons f fs ih =>
    have hstep : (f { s with pfail := level }).memory = s.memory := hf f List.mem_cons_self _ hc rfl
    exact (ih ((congrArg RecordMemory.flips hstep).trans hc) (fun g hg => hf g (List.mem_cons_of_mem f hg))).trans hstep

/-- R187: the first 97 steps of a reset are steps of the scan. -/
theorem take_resetSteps {i : Nat} (h : i ≤ 97) (cold : Bool) : (resetSteps cold).take i = scanSteps.take i :=
  List.take_append_of_le_length (by rw [scanSteps_length]; exact h)

/-- R185, R187: PFAIL asserted before the steps that restore the tables leaves the record memory of a clean image as it
stands when the scan begins. -/
theorem resetPart_memory {s : State} (hc : s.clean) (cold : Bool) {i : Nat} (h : i ≤ 97) :
    (s.resetPart cold (some i)).memory = ((s.beforeScan cold).resetVolatile cold).memory := by
  have hscan : (runUnder false ((resetSteps cold).take i) ((s.beforeScan cold).resetVolatile cold)).memory =
      ((s.beforeScan cold).resetVolatile cold).memory := by
    refine runUnder_keeps_memory (by exact hc) (fun f hf t ht _ => ?_)
    rw [take_resetSteps h] at hf
    obtain ⟨r, -, rfl⟩ := List.mem_map.mp (List.mem_of_mem_take hf)
    rw [scanRecord_clean r t ht]
  rw [resetPart_asserted]
  refine (runUnder_keeps_memory ?_ fun f hf t ht hp => ?_).trans hscan
  · rw [hscan]
    exact hc
  · exact resetStep_keeps_memory cold (List.mem_of_mem_drop hf) ht hp

/-- R158, R187: under PFAIL the last steps of a reset leave the shuttle IDLE. -/
theorem lastSteps_idle (cold : Bool) (s : State) : (runUnder true (lastSteps cold) s).shuttle.state = .idle := by
  simp only [lastSteps, List.foldl_cons, List.foldl_nil]
  rw [grant_power rfl, State.restoreCounters, raiseIfDamaged_frame]
  rfl

theorem resetPart_idle (s : State) (cold : Bool) {i : Nat} (h : i ≤ 97) :
    (s.resetPart cold (some i)).shuttle.state = .idle := by
  have hsplit : resetSteps cold =
      (scanSteps ++ (fun s => s.restoreGeometry cold) :: (tableSteps ++ stackSteps)) ++ lastSteps cold := by
    simp only [resetSteps, List.append_assoc, List.cons_append]
  have hlen : i ≤ (scanSteps ++ (fun s => s.restoreGeometry cold) :: (tableSteps ++ stackSteps)).length := by
    rw [List.length_append, scanSteps_length]
    omega
  rw [resetPart_asserted, hsplit, List.drop_append_of_le_length hlen, runUnder, List.foldl_append]
  exact lastSteps_idle cold _

/-! ### A cold reset of the reset state (log entry 8) -/

theorem foldl_stays {β : Type} {f : State → β → State} {s : State} (h : ∀ b, f s b = s) (bs : List β) :
    bs.foldl f s = s := by
  induction bs with
  | nil => rfl
  | cons b bs ih => rw [List.foldl_cons, h b, ih]

theorem reset_stack (n : StackNo) : State.reset.stack n = StackRecord.zero .free :=
  (stack_image _ n rfl).trans (reset_stackRec n)

theorem reset_job (j : JobSlot) : State.reset.job j = JobRecord.zero .empty :=
  (job_image _ j rfl).trans (Vector.getElem_replicate j.isLt)

theorem reset_isDamaged (ref : RecordRef) : State.reset.isDamaged ref = false := by
  rw [isDamaged_eq_marked rfl]
  cases ref with
  | geometry => rfl
  | job j => simp [State.marked, State.reset, JobRecord.zero]
  | lane l => simp [State.marked, State.reset, LaneRecord.blank]
  | stack n => simp [State.marked, State.reset, StackRecord.zero]
  | counter c => simp [State.marked, State.reset, CounterConfig.blank]

theorem reset_laneRec (l : Lane) : State.reset.laneRec l = LaneRecord.blank := by
  rw [State.laneRec, if_neg (by simp [reset_isDamaged])]
  exact Vector.getElem_replicate l.isLt

/-- No lane of the reset state holds a record in a state other than FREE. -/
theorem reset_laneStack {st : StackState} (h : st ≠ .free) (l : Lane) : State.reset.laneStack l st = none := by
  rw [laneStack_none]
  rintro n ⟨hst, -⟩
  rw [reset_stack] at hst
  exact h hst.symm

theorem reset_restoreGeometry : State.reset.restoreGeometry true = State.reset := by
  rw [State.restoreGeometry, raiseIfDamaged_none _ (fun r _ => reset_isDamaged r)]
  rfl

theorem reset_restoreJob (j : JobSlot) : State.reset.restoreJob j = State.reset := by
  rw [State.restoreJob, reset_job]
  exact if_neg (by simp [JobRecord.zero])

theorem reset_restoreLanes : State.reset.restoreLanes = State.reset := by
  have hlanes : vtab (fun l => { LaneUnit.reset with run := runAfterReset State.reset l }) = State.reset.lanes := by
    apply vector_ext
    intro l
    have hrun : runAfterReset State.reset l = .off := by rw [runAfterReset, reset_laneRec]; rfl
    rw [vtab_get, hrun]
    exact (Vector.getElem_replicate l.isLt).symm
  rw [State.restoreLanes, hlanes]
  exact raiseIfDamaged_none (s := State.reset) _ (fun r _ => reset_isDamaged r)

theorem reset_restoreStack (n : StackNo) : State.reset.restoreStack n = State.reset := by
  have hsame : restoredStack (State.reset.stack n) = State.reset.memory.stackRecs[n] := by
    rw [reset_stack, reset_stackRec]
    rfl
  rw [State.restoreStack, hsame, State.setStack, vset_self]
  rfl

theorem reset_restoreLane (l : Lane) : restoreLane State.reset l = State.reset := by
  have hseal : State.reset.restoreSeal l = State.reset := by
    rw [State.restoreSeal, reset_isDamaged]
    exact if_neg (by simp)
  have hcomplete (n : StackNo) : State.reset.restoreComplete l n = State.reset := by
    rw [State.restoreComplete, reset_stack]
    exact if_neg (by simp [StackRecord.complete, StackRecord.zero])
  rw [restoreLane, hseal, foldl_stays hcomplete, restorePush_eq l ⟨rfl, rfl⟩]
  exact pushHeld_stays (.inl (reset_laneStack (by decide) l))

theorem reset_resetShuttle : State.reset.resetShuttle true = State.reset := by
  have hcredits : vtab (fun l => (State.reset.laneRec l).weight) = State.reset.shuttle.credits := by
    apply vector_ext
    intro l
    rw [vtab_get, reset_laneRec]
    exact (Vector.getElem_replicate l.isLt).symm
  rw [State.resetShuttle, hcredits]
  rfl

theorem reset_rebuildQueue : State.reset.rebuildQueue = State.reset := by
  have hnone : State.reset.deliveredInOrder = [] := by
    have hfree : (List.finRange 64).filter (fun n => (State.reset.stack n).state == .delivered) = [] := by
      simp [reset_stack, StackRecord.zero]
    rw [State.deliveredInOrder, hfree]
    rfl
  rw [State.rebuildQueue, hnone]
  rfl

theorem reset_grant : State.reset.grant = State.reset := by
  refine grant_stays (Bool.eq_false_iff.mpr fun h => ?_)
  obtain ⟨-, -, ⟨l, hl⟩, -⟩ := (canGrant_iff _).mp h
  exact hl (reset_laneStack (by decide) l)

theorem reset_restoreCounters : State.reset.restoreCounters true = State.reset := by
  have hcounters : vtab (counterAfterReset State.reset true) = State.reset.counters := by
    apply vector_ext
    intro c
    have hrec : State.reset.memory.counterRecs[c] = CounterConfig.blank := Vector.getElem_replicate c.isLt
    rw [vtab_get, counterAfterReset, Bool.true_or, if_pos rfl, hrec]
    exact (Vector.getElem_replicate c.isLt).symm
  rw [State.restoreCounters, hcounters]
  exact raiseIfDamaged_none (s := State.reset) _ (fun r _ => reset_isDamaged r)

/-- The reset state is what a cold reset on the image of log entry 8 leaves. -/
theorem reset_resetPart : State.reset.resetPart true none = State.reset := by
  have hbegun : resetBegun State.reset true = State.reset := rfl
  rw [resetPart_clean true rfl, hbegun, reset_restoreGeometry, foldl_stays reset_restoreJob, reset_restoreLanes,
    foldl_stays reset_restoreStack, foldl_stays reset_restoreLane, reset_resetShuttle, reset_rebuildQueue,
    reset_grant, reset_restoreCounters]

/-- Settles O50, by the command and by the step before which PFAIL is asserted. -/
theorem resetsRunTheResetSequence : Obligations.ResetsRunTheResetSequence := by
  refine ⟨fun s c => ⟨exec_coldReset c s, fun hp => ⟨?_, ?_⟩, fun hp => ?_⟩, resetPart_pfail,
    fun s cold i => ⟨resetPart_asserted s cold i, fun h => resetPart_after_last h s cold⟩,
    fun s t cold i hc hi ht => ?early, ?quiet⟩
  · rw [exec_pfailNegate, negatePfail_stays hp]
  · rw [exec_reset, request_replies (by exact hp) (resetRule_eq c _)]
  · rw [exec_pfailNegate, negatePfail_resets hp]
  case early =>
    have hmem := resetPart_memory hc cold hi
    have hidle := resetPart_idle s cold hi
    rw [← ht] at hmem hidle
    rw [hmem]
    exact ⟨rfl, rfl, rfl, rfl, rfl, rfl, hidle⟩
  case quiet =>
    have hedges : State.reset.edgesAtReset ResetCourse.quiet = State.reset := rfl
    have halone : ResetCourse.quiet.pfailFrom = none := rfl
    rw [exec_coldReset, hedges, halone, reset_resetPart]
    rfl

end Sys2Proof.Proofs
end

section
/-! SUPPORT. The request port: the judging of a request frame, the bytes that a transfer shifts out, the check byte, and the
request that each code stands for. -/

namespace Sys2Proof.Proofs

open Sys2Proof Sys2Proof.Machine Sys2Proof.Laws

theorem exec_refusedFrame (bytes : List Byte) (s : State) : exec (.refusedFrame bytes) s = takeTransfer bytes s := rfl
theorem exec_responseRead (n : Nat) (s : State) : exec (.responseRead n) s = .next (s.readTransfer n) := rfl

/-! ### Judging a frame (R190) -/

/-- R190: the request frame of a code and a payload. -/
abbrev frameOf (code : Byte) (p : List Byte) : List Byte :=
  0x5A :: code :: byteOf p.length :: (p ++ [crc8 (code :: byteOf p.length :: p)])

theorem frameOf_length (code : Byte) (p : List Byte) : (frameOf code p).length = p.length + 4 := by
  simp [frameOf]

theorem byteOf_toNat {n : Nat} (h : n < 256) : (byteOf n).toNat = n :=
  (BitVec.toNat_ofNat n 8).trans (Nat.mod_eq_of_lt h)

theorem byteOf_self (b : Byte) : byteOf b.toNat = b := BitVec.eq_of_toNat_eq (byteOf_toNat b.isLt)

/-- R190: a frame is sound as the frame of its code and payload. -/
theorem soundFrame_frameOf (code : Byte) {p : List Byte} (h : p.length ≤ 60) :
    soundFrame (frameOf code p) = some (code, p) := by
  have hn : (byteOf p.length).toNat = p.length := byteOf_toNat (by omega)
  simp only [soundFrame, hn, h, List.length_append, List.length_singleton, List.getLast?_concat, List.dropLast_concat,
    and_self, if_true]

/-- R190: what a sound frame holds: its code, the length of its payload, the payload and the check byte over these. -/
theorem soundFrame_some {b code : Byte} {p rest : List Byte} (h : soundFrame (b :: rest) = some (code, p)) :
    p.length ≤ 60 ∧ rest = code :: byteOf p.length :: (p ++ [crc8 (code :: byteOf p.length :: p)]) := by
  unfold soundFrame at h
  split at h
  · next c n tail heq =>
    obtain ⟨-, rfl⟩ := List.cons.inj heq
    split at h
    · next hs =>
      obtain ⟨hn, hlen, hlast⟩ := hs
      obtain ⟨rfl, rfl⟩ := Prod.mk.inj (Option.some.inj h)
      obtain ⟨ys, hys⟩ := List.getLast?_eq_some_iff.mp hlast
      have hdrop : tail.dropLast = ys := (congrArg List.dropLast hys).trans List.dropLast_concat
      have hp : tail.dropLast.length = n.toNat := by rw [List.length_dropLast, hlen, Nat.add_sub_cancel]
      have htail : tail = tail.dropLast ++ [crc8 (c :: n :: tail.dropLast)] :=
        hys.trans (congrArg (· ++ _) hdrop.symm)
      rw [hp, byteOf_self]
      exact ⟨hn, congrArg _ (congrArg _ htail)⟩
    · cases h
  · cases h

theorem soundFrame_none {rest : List Byte}
    (h : ¬∃ (code : Byte) (p : List Byte), p.length ≤ 60 ∧ 0x5A :: rest = frameOf code p) :
    soundFrame (0x5A :: rest) = none := by
  rw [Option.eq_none_iff_forall_ne_some]
  rintro ⟨code, p⟩ hs
  obtain ⟨hp, hrest⟩ := soundFrame_some hs
  exact h ⟨code, p, hp, congrArg _ hrest⟩

/-- R189: a transfer that does not begin with 0x5A is a read transfer. -/
theorem takeTransfer_read {bytes : List Byte} (h : bytes.head? ≠ some 0x5A) (s : State) :
    takeTransfer bytes s = .next (s.readTransfer bytes.length) := by
  cases bytes with
  | nil => rfl
  | cons b rest => exact if_neg (fun hb => h (congrArg some hb))

/-- R189: a transfer that begins with 0x5A is a request transfer, and its frame is judged. -/
theorem takeTransfer_frame (code : Byte) (p : List Byte) (s : State) :
    takeTransfer (frameOf code p) s = judgeFrame (frameOf code p) s := by
  rw [takeTransfer, if_pos rfl]

theorem takeTransfer_unsound {bytes : List Byte} (hb : bytes.head? = some 0x5A)
    (h : ¬∃ (code : Byte) (p : List Byte), p.length ≤ 60 ∧ bytes = frameOf code p) (s : State) :
    takeTransfer bytes s = .next { s.clocked bytes.length with port := .ready (responseFrame .errFrame []) } := by
  cases bytes with
  | nil => cases hb
  | cons b rest =>
    obtain rfl : b = 0x5A := Option.some.inj hb
    rw [takeTransfer, if_pos rfl, judgeFrame, soundFrame_none h]
    rfl

section
variable {code : Byte} {p : List Byte} (h : p.length ≤ 60) (s : State)
include h

/-- R190: a frame of unknown code is ERR_CODE. -/
theorem judgeFrame_code (hc : requestLength code.toNat = none) :
    judgeFrame (frameOf code p) s =
      .next { s.clocked (frameOf code p).length with port := .ready (responseFrame .errCode []) } := by
  simp only [judgeFrame, soundFrame_frameOf code h, hc, frameOf_length]
  rfl

variable {len : Nat} (hc : requestLength code.toNat = some len)
include hc

/-- R190: a sound frame acts as the request of its code. -/
theorem judgeFrame_sound (hl : p.length = len) : judgeFrame (frameOf code p) s = takeRequest code.toNat p s := by
  simp only [judgeFrame, soundFrame_frameOf code h, hc]
  exact if_pos hl

/-- R190: a wrong payload length is ERR_ARG, for STATUS under PFAIL too. -/
theorem judgeFrame_length (hl : p.length ≠ len) (hp : s.pfail = false ∨ code = 1) :
    judgeFrame (frameOf code p) s =
      .next { s.clocked (frameOf code p).length with port := .ready (responseFrame .errArg []) } := by
  simp only [judgeFrame, soundFrame_frameOf code h, hc, if_neg hl, frameOf_length]
  split
  · rfl
  · next hn => rw [State.refuseArg, request_form (by exact hp.resolve_right hn)]; rfl

/-- R190: under PFAIL the wrong payload length of any other request is ERR_POWER. -/
theorem judgeFrame_power (hl : p.length ≠ len) (hp : s.pfail = true) (hn : code ≠ 1) :
    judgeFrame (frameOf code p) s =
      .next { s.clocked (frameOf code p).length with port := .ready (responseFrame .errPower []) } := by
  simp only [judgeFrame, soundFrame_frameOf code h, hc, if_neg hl, if_neg hn, frameOf_length]
  rw [State.refuseArg, request_power (by exact hp)]
  rfl

end

/-! ### The bytes that a transfer shifts out (R189, R191) -/

theorem shiftedOut_ready (frame : List Byte) (n : Nat) :
    shiftedOut (.ready frame) n =
      if n < frame.length then frame.take n else frame ++ List.replicate (n - frame.length) 0 := by
  rw [shiftedOut, List.take_append, List.take_replicate, Nat.min_eq_left (Nat.sub_le ..)]
  split
  · next h => rw [Nat.sub_eq_zero_of_le (Nat.le_of_lt h), List.replicate_zero, List.append_nil]
  · next h => rw [List.take_of_length_le (Nat.not_lt.mp h)]

theorem shiftedOut_silent {port : ResponseSlot} (h : port = .empty ∨ port = .building) (n : Nat) :
    shiftedOut port n = List.replicate n 0 := by
  rcases h with rfl | rfl <;> rfl

theorem readTransfer_ready {s : State} {n : Nat} {frame : List Byte} (hn : n ≠ 0) (h : s.port = .ready frame) :
    s.readTransfer n = { s.clocked n with port := if frame.length ≤ n then .empty else .ready frame } := by
  rw [State.readTransfer, if_neg hn, h]
  rfl

/-- R191: a read transfer that finds no response ready leaves the port as it is. -/
theorem readTransfer_silent {s : State} {n : Nat} (hn : n ≠ 0) (h : s.port = .empty ∨ s.port = .building) :
    s.readTransfer n = s.clocked n := by
  have hport : slotAfterRead s.port n = s.port := by rcases h with h | h <;> rw [h] <;> rfl
  rw [State.readTransfer, if_neg hn, hport]
  rfl

/-! ### The part's edges at a reset (R77, R189, R191) -/

/-- R189, log entry 25: what the transfer under way at a reset shifts out after the reset's end. -/
def bytesAfterReset (s : State) (x : CutTransfer) : List Byte :=
  if s.port.unread x.before then (List.range x.after).map (Config.sdoAfterReset s.freeCount) else List.replicate x.after 0

theorem bytesAfterReset_length (s : State) (x : CutTransfer) : (bytesAfterReset s x).length = x.after := by
  unfold bytesAfterReset
  split
  · rw [List.length_map, List.length_range]
  · rw [List.length_replicate]

theorem bytesAfterReset_silent {s : State} (h : s.port = .empty ∨ s.port = .building) (x : CutTransfer) :
    bytesAfterReset s x = List.replicate x.after 0 := by
  rcases h with h | h <;> rw [bytesAfterReset, h] <;> rfl

theorem bytesAfterReset_read {s : State} {x : CutTransfer} {frame : List Byte} (h : s.port = .ready frame)
    (hr : frame.length ≤ x.before) : bytesAfterReset s x = List.replicate x.after 0 := by
  rw [bytesAfterReset, h]
  exact if_neg (by simpa [ResponseSlot.unread] using hr)

/-- R191: the transfers that begin while a reset is in progress, the last one first. -/
theorem foldl_begunTransfer (ns : List Nat) (s : State) :
    ns.foldl State.begunTransfer s =
      { s with
          outputs := (ns.filter (fun n => decide (n ≠ 0))).reverse.map (fun n => Output.sdo (List.replicate n 0)) ++
            s.outputs } := by
  induction ns generalizing s with
  | nil => rfl
  | cons n ns ih =>
    rw [List.foldl_cons, ih, State.begunTransfer]
    by_cases hn : n = 0
    · simp [hn]
    · simp [hn, State.emit]

/-- R189: what the transfer under way at a reset, if any, puts out. -/
def cutOutput (s : State) : Option CutTransfer → List Output
  | none => []
  | some x => [.sdo (shiftedOut s.port x.before ++ List.replicate x.within 0 ++ bytesAfterReset s x)]

/-- R77, log entry 14: what a reset that lets `k` characters out puts out of the trim message being sent, if any. -/
def trimOutput (k : Nat) : Option (TrimMessage × LinkRate) → List Output
  | none => []
  | some (m, rate) => if k = 0 then [] else [.trim ((trimBytes m).take k) rate]

theorem cutTransfer_eq (s : State) (cut : Option CutTransfer) :
    s.cutTransfer cut =
      { s with
          freeCount := if cut.isSome then s.freeCount + 1 else s.freeCount
          outputs := cutOutput s cut ++ s.outputs } := by
  cases cut <;> rfl

theorem putTrim_outputs (s : State) (k : Nat) : (s.putTrim k).outputs = trimOutput k s.register.sending ++ s.outputs := by
  cases h : s.register.sending with
  | none => rw [putTrim_idle k h]; rfl
  | some now =>
    by_cases hk : k = 0
    · simp [State.putTrim, trimOutput, h, hk]
    · rw [putTrim_sending h hk, trimOutput, if_neg hk]
      rfl

/-- R77, R189, R191: what leaves the part at its edges around a reset, and nothing else but the free values it takes. -/
theorem edgesAtReset_eq (s : State) (c : ResetCourse) :
    s.edgesAtReset c =
      { s with
          freeCount := if c.cut.isSome then s.freeCount + 1 else s.freeCount
          outputs := (c.begun.filter (fun n => decide (n ≠ 0))).reverse.map (fun n => Output.sdo (List.replicate n 0)) ++
            cutOutput s c.cut ++ trimOutput c.trimSent s.register.sending ++ s.outputs } := by
  rw [State.edgesAtReset, foldl_begunTransfer, putTrim_frame, putTrim_outputs, cutTransfer_eq]
  simp only [List.append_assoc]
  rfl

/-! ### The check byte (R190) -/

theorem crc8_concat (bytes : List Byte) (b : Byte) : crc8 (bytes ++ [b]) = crcByte (crc8 bytes) b := by
  rw [crc8, List.foldl_append]
  rfl

/-- R190: one byte of the check byte, bit by bit. -/
theorem crcByte_eq {c b : Byte} {r : Nat → Byte} (h0 : r 0 = c ^^^ b)
    (hs : ∀ k, r (k + 1) = if (r k).getLsbD 7 then (r k <<< 1) ^^^ 0x07 else r k <<< 1) : crcByte c b = r 8 := by
  have hrun (n : Nat) :
      (List.range n).foldl (fun r _ => if r.msb then (r <<< 1) ^^^ 0x07#8 else r <<< 1) (c ^^^ b) = r n := by
    induction n with
    | zero => exact h0.symm
    | succ n ih =>
      rw [List.range_succ, List.foldl_append, ih, hs n]
      simp only [List.foldl_cons, List.foldl_nil, BitVec.msb_eq_getLsbD_last]
      rfl
  exact hrun 8

/-! ### The requests by their codes (R193) -/

/-- R193: the lengths as a chain of tests on the code. -/
theorem requestLength_eq (code : Nat) : requestLength code =
    if code = 0x01 then some 4 else if code = 0x02 then some 2 else if code = 0x03 then some 1
    else if code = 0x04 then some 0 else if code = 0x10 then some 51 else if code = 0x11 then some 0
    else if code = 0x12 then some 2 else if code = 0x20 then some 29 else if code = 0x21 then some 1
    else if code = 0x22 then some 1 else if code = 0x30 then some 10 else if code = 0x31 then some 1
    else if code = 0x32 then some 2 else if code = 0x40 then some 2 else if code = 0x41 then some 2
    else if code = 0x42 then some 1 else if code = 0x43 then some 3 else if code = 0x44 then some 2
    else if code = 0x50 then some 2 else if code = 0x51 then some 3 else if code = 0x60 then some 12
    else if code = 0x61 then some 1 else if code = 0x70 then some 0 else none := by
  unfold requestLength
  split
  case h_24 => grind
  all_goals rfl

/-- R190: a request of 0x03 or 0x44 refused for its argument. -/
theorem refuseArg_eq (s : State) (len : Nat) :
    s.refuseArg len =
      { s.framed len with port := .ready (responseFrame (if s.pfail then .errPower else .errArg) []) } := by
  cases hp : s.pfail with
  | true => rw [State.refuseArg, request_power (by exact hp)]; rfl
  | false => rw [State.refuseArg, request_form (by exact hp)]; rfl

theorem takeMode_refuses {b : Byte} (h1 : b ≠ 1) (h2 : b ≠ 2) (s : State) :
    takeMode b s = .next (s.refuseArg 1) := by
  rw [takeMode, if_neg h1, if_neg h2]

theorem takeRetire_refuses {option : Byte} (h0 : option ≠ 0) (h1 : option ≠ 1) (stack : Byte) (s : State) :
    takeRetire stack option s = .next (s.refuseArg 2) := by
  rw [takeRetire, if_neg h0, if_neg h1]

/-- Settles O60, by the bytes of a transfer, then by the code of a request. -/
theorem portJudgesFramesAndShiftsOutResponses : Obligations.PortJudgesFramesAndShiftsOutResponses := by
  refine ⟨fun s => ⟨rfl, fun bytes h => ?read, fun bytes hb h => ?unsound, fun code p bytes hp hbytes => ?frame⟩,
    fun s n => ⟨rfl, fun frame h => ?ready, fun h => ?silent, rfl, fun frame hn h => ?readReady, fun hn h => ?readSilent⟩,
    fun s c => ⟨bytesAfterReset s, bytesAfterReset_length s, fun x h => bytesAfterReset_silent h x,
      fun x frame h hr => bytesAfterReset_read h hr, edgesAtReset_eq s c⟩,
    fun st payload => rfl, rfl, rfl, fun bytes b r h0 hs => ?crc, requestLength_eq, fun s p b be hb hbe => ?requests⟩
  case read => exact takeTransfer_read h s
  case unsound => exact takeTransfer_unsound hb h s
  case frame =>
    subst hbytes
    rw [exec_refusedFrame, takeTransfer_frame]
    exact ⟨judgeFrame_code hp s, fun len hc => ⟨judgeFrame_sound hp s hc, judgeFrame_length hp s hc,
      judgeFrame_power hp s hc⟩⟩
  case ready => rw [State.clocked, h, shiftedOut_ready, ← h]; rfl
  case silent => rw [State.clocked, shiftedOut_silent h]; rfl
  case readReady => rw [exec_responseRead, readTransfer_ready hn h]
  case readSilent => rw [exec_responseRead, readTransfer_silent hn h]
  case crc => rw [crc8_concat, crcByte_eq h0 hs]
  case requests =>
    obtain rfl : b = payloadByte p := funext hb
    obtain rfl : be = fun w k len => payloadField w p k len := by
      funext w k len
      exact hbe w k len
    refine ⟨rfl, rfl, fun h => if_pos h, fun h => ?park, fun h1 h2 => ?mode, rfl, rfl, rfl, rfl, rfl, rfl, rfl, rfl, rfl,
      rfl, rfl, rfl, rfl, rfl, fun h => if_pos h, fun h => ?all, fun h0 h1 => ?retire, rfl, rfl, rfl, rfl, rfl⟩
    case park => exact (if_neg (by rw [h]; decide)).trans (if_pos h)
    case mode => exact (takeMode_refuses h1 h2 s).trans (by rw [refuseArg_eq])
    case all => exact (if_neg (by rw [h]; decide)).trans (if_pos h)
    case retire => exact (takeRetire_refuses h0 h1 _ s).trans (by rw [refuseArg_eq])

end Sys2Proof.Proofs
end

section
/-! SUPPORT. The gate decision of one lane: the waste lines of the gate table, the reads of the decision, the JOB_END seal
and the sample filter. -/

namespace Sys2Proof.Proofs

open Sys2Proof Sys2Proof.Machine Sys2Proof.Laws

/-! ### The waste lines (R80, R81) -/

theorem laneOffHolds_iff (s : State) (r : RowRecord) (l : Lane) :
    laneOffHolds s l r.lanes[l] = true ↔ wasteCondition s r l .laneOff := by
  unfold laneOffHolds wasteCondition
  cases r.lanes[l].snapshot <;> simp

/-- Lines 2 to 12 of R80, in their order. -/
def laterWasteLines : List WasteReason :=
  [.jam, .reverse, .marklost, .settling, .splice, .miscut, .misreg, .print, .blank, .manual, .noverdict]

theorem mem_laterWasteLines (w : WasteReason) : w ∈ laterWasteLines ↔ w ≠ .laneOff ∧ w ≠ .blocked := by
  cases w <;> decide

theorem laneOff_first {w : WasteReason} (h : w ≠ .laneOff) : WasteReason.laneOff.code < w.code := by
  revert h
  cases w <;> decide

theorem laterWasteLines_ascending : laterWasteLines.Pairwise (fun v w => v.code < w.code) := by decide

/-- A search of a list, one entry at a time. -/
theorem find_cons_ite {α : Type} (p : α → Prop) [DecidablePred p] (a : α) (as : List α) :
    (a :: as).find? (fun x => decide (p x)) = if p a then some a else as.find? (fun x => decide (p x)) := by
  rw [List.find?_cons]
  by_cases h : p a <;> simp [h]

open Classical in
/-- R80: lines 2 to 12 are searched for the first whose condition holds. -/
theorem wasteLine_eq_find (s : State) (r : RowRecord) (l : Lane) :
    wasteLine s l r.flags r.lanes[l] = laterWasteLines.find? (fun w => decide (wasteCondition s r l w)) := by
  unfold wasteLine laterWasteLines
  simp only [find_cons_ite (wasteCondition s r l), List.find?_nil]
  congr

/-- R80: the first line whose condition holds is the one judged. -/
theorem wasteLine_first {s : State} {r : RowRecord} {l : Lane} {w : WasteReason} (hw : w ≠ .laneOff)
    (h : wasteCondition s r l w) (hfirst : ∀ w' : WasteReason, w'.code < w.code → ¬wasteCondition s r l w') :
    wasteLine s l r.flags r.lanes[l] = some w := by
  have hblocked : w ≠ .blocked := by rintro rfl; exact h
  obtain ⟨before, after, hsplit⟩ := List.append_of_mem ((mem_laterWasteLines w).mpr ⟨hw, hblocked⟩)
  obtain ⟨-, -, hlt⟩ := List.pairwise_append.mp (hsplit ▸ laterWasteLines_ascending)
  classical
  rw [wasteLine_eq_find, List.find?_eq_some_iff_append]
  refine ⟨decide_eq_true h, before, after, hsplit, fun v hv => ?_⟩
  simpa using hfirst v (hlt v hv w List.mem_cons_self)

/-- R80: no line is judged when no condition holds. -/
theorem wasteLine_none {s : State} {r : RowRecord} {l : Lane} (h : ∀ w : WasteReason, ¬wasteCondition s r l w) :
    wasteLine s l r.flags r.lanes[l] = none := by
  classical
  rw [wasteLine_eq_find, List.find?_eq_none]
  exact fun w _ => by simpa using h w

/-! ### One lane of the decision (R79 to R82, R97) -/

/-- R79: the job record of an entry's snapshot is read. -/
def readSnapshot (s : State) (e : LaneEntry) : State :=
  match e.snapshot with
  | none => s
  | some j => readRecord (.job j) s

theorem readSnapshot_of {s t : State} {e : LaneEntry} (hnone : e.snapshot = none → t = s)
    (hsome : ∀ j, e.snapshot = some j → t = readRecord (.job j) s) : readSnapshot s e = t := by
  unfold readSnapshot
  split
  · next h => exact (hnone h).symm
  · next j h => exact (hsome j h).symm

theorem readSnapshot_clean {s : State} (hc : s.clean) (e : LaneEntry) : readSnapshot s e = s :=
  readSnapshot_of (fun _ => rfl) fun _ _ => (readRecord_clean _ s hc).symm

section
variable {s t : State} {i : RingSlot} {r : RowRecord} {l : Lane} (hr : s.rowAt i = some r)
  (ht : readSnapshot s r.lanes[l] = t)
include hr ht

/-- The decision of a lane: LANE_OFF, then the later waste lines, then PFAIL, the sample filter and the commit. -/
theorem decideLane_eq :
    s.decideLane i l =
      if laneOffHolds t l r.lanes[l] then
        ((t.readForDecision l).sealEndedJob l).wasteLabel i r.number l r.lanes[l] .laneOff
      else
        match wasteLine t l r.flags r.lanes[l] with
        | some w => (t.readForDecision l).wasteLabel i r.number l r.lanes[l] w
        | none =>
          match r.lanes[l].snapshot with
          | none => t
          | some j =>
            if t.pfail then t.wasteLabel i r.number l r.lanes[l] .blocked
            else if sampleMatches (t.job j) r.number then t.sampleLabel i r.number l r.lanes[l]
            else (t.readForDecision l).commitStage i r.number l r.lanes[l] j := by
  subst ht
  rw [State.decideLane, hr]
  rfl

/-- R79 to R81: the first waste line whose condition holds takes the label, after the stack reads of the decision. -/
theorem decideLane_wasted {w : WasteReason} (hw : wasteCondition t r l w)
    (hfirst : ∀ w' : WasteReason, w'.code < w.code → ¬wasteCondition t r l w') :
    s.decideLane i l =
      (if w = .laneOff then (t.readForDecision l).sealEndedJob l else t.readForDecision l).wasteLabel
        i r.number l r.lanes[l] w := by
  rw [decideLane_eq hr ht]
  by_cases ho : w = .laneOff
  · subst ho
    rw [if_pos ((laneOffHolds_iff t r l).mpr hw), if_pos rfl]
  · rw [if_neg (mt (laneOffHolds_iff t r l).mp (hfirst _ (laneOff_first ho))), wasteLine_first ho hw hfirst, if_neg ho]

/-- R82, R97: a label that no waste line takes. -/
theorem decideLane_passes {j : JobSlot} (hj : r.lanes[l].snapshot = some j)
    (h : ∀ w : WasteReason, ¬wasteCondition t r l w) :
    s.decideLane i l =
      if t.pfail then t.wasteLabel i r.number l r.lanes[l] .blocked
      else if sampleMatches (t.job j) r.number then t.sampleLabel i r.number l r.lanes[l]
      else (t.readForDecision l).commitStage i r.number l r.lanes[l] j := by
  rw [decideLane_eq hr ht, if_neg (mt (laneOffHolds_iff t r l).mp (h _)), wasteLine_none h, hj]

end

/-- R80, R87: a wasted label: the skip cause of its lane and the entry of its row. -/
theorem wasteLabel_row {s : State} {i : RingSlot} {r : RowRecord} (hr : s.rowAt i = some r) (row : RowNo) (l : Lane)
    (e : LaneEntry) (w : WasteReason) :
    s.wasteLabel i row l e w =
      { s with
          lanes := vset s.lanes l (skipAfter s.lanes[l] (.waste w) row)
          ring := { s.ring with
            slots := vset s.ring.slots i (some (r.setEntry l { e with disposition := .waste w })) } } := by
  rw [State.wasteLabel, setEntry_row (by exact hr), skip_eq]
  rfl

/-- R82, R87: a label that goes to the sample tray. -/
theorem sampleLabel_row {s : State} {i : RingSlot} {r : RowRecord} (hr : s.rowAt i = some r) (row : RowNo) (l : Lane)
    (e : LaneEntry) :
    s.sampleLabel i row l e =
      { s with
          lanes := vset s.lanes l (skipAfter s.lanes[l] .sample row)
          ring := { s.ring with
            slots := vset s.ring.slots i (some (r.setEntry l { e with disposition := .sample })) } } := by
  rw [State.sampleLabel, setEntry_row (by exact hr), skip_eq]
  rfl

/-! ### The JOB_END seal (R81) -/

theorem jobEnded_iff (s : State) (r : StackRecord) :
    jobEnded s r = true ↔ (s.job r.slot).state ≠ .active ∨ (s.job r.slot).jobId ≠ r.jobId := by
  simp only [jobEnded, Bool.or_eq_true, bne_iff_ne]

theorem sealEndedJob_stays {s : State} {l : Lane} (h : s.pfail = true ∨ s.openOf l = none) : s.sealEndedJob l = s := by
  unfold State.sealEndedJob
  split
  · rfl
  · next hp => rw [h.resolve_left hp]

/-- R81: on a clean image the OPEN stack is sealed when its job has ended. -/
theorem sealEndedJob_open {s : State} {l : Lane} {n : StackNo} (hc : s.clean) (hp : s.pfail = false)
    (hn : s.openOf l = some n) : s.sealEndedJob l = if jobEnded s (s.stack n) then s.seal n .jobEnd else s := by
  rw [State.sealEndedJob, if_neg (by rw [hp]; decide), hn]
  dsimp only
  rw [readRecord_clean _ s hc, hn]

/-! ### The reads of the decision (R79) -/

/-- R79: the lane's OPEN, SEALED, HELD and READY records are read in ascending number, then the FREE ones. -/
theorem readForDecision_eq (s : State) (l : Lane) :
    s.readForDecision l =
      State.readFree 64 (((List.finRange 64).filter (fun n =>
        decide (((s.stack n).state = .opened ∨ (s.stack n).state = .sealed ∨ (s.stack n).state = .held ∨
          (s.stack n).state = .ready) ∧ (s.stack n).lane = l.val + 1))).foldl (fun u n => readRecord (.stack n) u) s) := by
  have hlive (n : StackNo) :
      (((s.stack n).state == .opened || (s.stack n).piled) && (s.stack n).lane == laneNumber l) =
        decide (((s.stack n).state = .opened ∨ (s.stack n).state = .sealed ∨ (s.stack n).state = .held ∨
          (s.stack n).state = .ready) ∧ (s.stack n).lane = l.val + 1) := by
    simp only [StackRecord.piled, laneNumber, Bool.beq_eq_decide_eq, Bool.decide_and, Bool.decide_or, Bool.or_assoc]
  simp only [State.readForDecision, State.readLaneStacks, readAll, List.foldl_map, hlive]

theorem readFree_none {s : State} (k : Nat) (h : ∀ n, (s.stack n).state ≠ .free) : s.readFree (k + 1) = s := by
  rw [State.readFree, lowestFree_none.mpr h]

/-- R79: a FREE record found damaged at its read is passed over for the next. -/
theorem readFree_some {s t : State} {n : StackNo} (k : Nat) (h : (s.stack n).state = .free)
    (hm : ∀ m, m < n → (s.stack m).state ≠ .free) (ht : t = readRecord (.stack n) s) :
    s.readFree (k + 1) = if (t.stack n).state = .free then t else t.readFree k := by
  rw [State.readFree, lowestFree_some h hm, ht]

/-- Settles O30, by whether the first line that holds is LANE_OFF, and the reads in their order. -/
theorem firstWasteConditionDecidesTheLane : Obligations.FirstWasteConditionDecidesTheLane := by
  refine ⟨fun s i r l w hc hr hw hfirst t ht => ?clean, fun s l hc => ⟨sealEndedJob_stays, fun n hp hn => ?jobEnd⟩,
    fun s t i r l w hr hnone hsome => decideLane_wasted hr (readSnapshot_of hnone hsome), readForDecision_eq,
    fun s k => ⟨readFree_none k, fun n t => readFree_some k⟩⟩
  case clean =>
    have hring : t.ring = s.ring := by
      rw [ht]
      split
      · exact (sealEndedJob_moved l hc).ring
      · rfl
    have hrow : t.rowAt i = some r := by rw [State.rowAt, hring]; exact hr
    rw [decideLane_wasted hr (readSnapshot_clean hc _) hw hfirst, readForDecision_clean l hc, ← ht]
    exact ⟨wasteLabel_row hrow _ _ _ _, hring⟩
  case jobEnd =>
    rw [sealEndedJob_open hc hp hn]
    refine ⟨fun ⟨hs, hid⟩ => if_neg ?_, fun h => if_pos ((jobEnded_iff s _).mpr h)⟩
    rw [jobEnded_iff]
    exact fun h => h.elim (· hs) (· hid)

/-! ### The sample filter (R82) -/

theorem sampleMatches_iff (j : JobRecord) (row : RowNo) :
    sampleMatches j row = true ↔
      j.sampleEnable = true ∧
        ∀ b, b < 6 → j.sampleMask.getLsbD b = true → row.getLsbD b = j.sampleValue.getLsbD b := by
  rw [sampleMatches, Bool.and_eq_true, beq_iff_eq]
  refine and_congr_right fun _ => ?_
  have hbit {b : Nat} (hb : b < 6) : ((row.setWidth 6 ^^^ j.sampleValue) &&& j.sampleMask).getLsbD b =
      ((row.getLsbD b ^^ j.sampleValue.getLsbD b) && j.sampleMask.getLsbD b) := by
    simp only [BitVec.getLsbD_and, BitVec.getLsbD_xor, BitVec.getLsbD_setWidth, hb, decide_true, Bool.true_and]
  refine BitVec.zero_iff_eq_false.trans ⟨fun h b hb hm => ?_, fun h b => ?_⟩
  · have hb' := (hbit hb).symm.trans (h b)
    rw [hm, Bool.and_true] at hb'
    simpa only [bne_eq_false_iff_eq] using hb'
  · by_cases hb : b < 6
    · rw [hbit hb]
      cases hm : j.sampleMask.getLsbD b with
      | true => rw [h b hb hm, Bool.xor_self, Bool.false_and]
      | false => rw [Bool.and_false]
    · exact BitVec.getLsbD_of_ge _ b (Nat.not_lt.mp hb)

/-- Settles O31, by PFAIL and the sample filter, once no waste line takes the label. -/
theorem labelPastWasteLinesIsSampledOrCommitted : Obligations.LabelPastWasteLinesIsSampledOrCommitted := by
  refine ⟨fun s t i r l j hr hj ht h => decideLane_passes hr (readSnapshot_of ?_ ?_) hj h,
    fun s i r l j hc hr hj h => ?clean⟩
  · exact fun hn => absurd (hn.symm.trans hj) nofun
  · rintro k hk
    obtain rfl := Option.some.inj (hk.symm.trans hj)
    exact ht
  case clean =>
    rw [decideLane_passes hr (readSnapshot_clean hc _) hj h, readForDecision_clean l hc, ← sampleMatches_iff]
    refine ⟨fun hp => ?_, fun hp => ?_⟩
    · rw [if_pos hp, wasteLabel_row hr]
    · rw [if_neg (by rw [hp]; decide)]
      refine ⟨fun hm => ?_, fun hm => ?_⟩
      · rw [if_pos hm, sampleLabel_row hr]
      · rw [if_neg hm]

end Sys2Proof.Proofs
end

section
/-! SUPPORT. The commit of a label to a stack record: the tests of an OPEN record, the committed record, a new record for the
lane or the lane BLOCKED, and the test that frees BLOCKED lanes. -/

namespace Sys2Proof.Proofs

open Sys2Proof Sys2Proof.Machine Sys2Proof.Laws

/-! ### The offer to an OPEN record (R83) -/

section
variable {job : JobRecord} {slot : JobSlot} {serial : Option Nat} {r : StackRecord}

theorem offerRefusal_jobChange (h : r.slot ≠ slot ∨ r.jobId ≠ job.jobId) :
    offerRefusal job slot serial r = some .jobChange := if_pos h

theorem offerRefusal_unserialized (hs : r.slot = slot) (hid : r.jobId = job.jobId) (hj : job.serialized = false) :
    offerRefusal job slot serial r = none :=
  (if_neg (by simp [hs, hid])).trans (if_neg (by simp [hj]))

/-- R83: the tests of a serialized record on the distance in steps from its last committed serial. -/
def distanceRefusal (job : JobRecord) (foreseen : Nat) : Option Nat → Option SealReason
  | none => some .serialBreak
  | some d =>
    if d = 0 ∨ 9999 < d then some .serialBreak
    else if 2 ≤ d ∧ job.gapLimit ≤ foreseen then some .gapLimit
    else none

theorem offerRefusal_serialized (hs : r.slot = slot) (hid : r.jobId = job.jobId) (hj : job.serialized = true)
    {sp : SerialPart} {k a : Nat} (hr : r.serial = some sp) (hk : serial = some k) (ha : sp.lastCommitted = some a) :
    offerRefusal job slot serial r =
      distanceRefusal job sp.foreseen (serialDistance job.serialMode job.step a k) := by
  refine (if_neg (by simp [hs, hid])).trans ((if_pos hj).trans ?_)
  rw [hr, hk]
  dsimp only
  rw [ha]
  rfl

theorem distanceRefusal_serialBreak {foreseen : Nat} {distance : Option Nat}
    (h : ∀ d, distance = some d → d = 0 ∨ 9999 < d) : distanceRefusal job foreseen distance = some .serialBreak := by
  cases distance with
  | none => rfl
  | some d => exact if_pos (h d rfl)

theorem distanceRefusal_next (foreseen : Nat) : distanceRefusal job foreseen (some 1) = none := by
  simp [distanceRefusal]

theorem distanceRefusal_gap {d : Nat} (foreseen : Nat) (h2 : 2 ≤ d) (h9 : d ≤ 9999) :
    distanceRefusal job foreseen (some d) = if job.gapLimit ≤ foreseen then some .gapLimit else none := by
  rw [distanceRefusal, if_neg (by omega)]
  simp only [h2, true_and]

/-- R83: a serialized record takes a label only at a distance of 1 to 9,999 steps. -/
theorem distanceRefusal_none {foreseen : Nat} {distance : Option Nat}
    (h : distanceRefusal job foreseen distance = none) : ∃ d, distance = some d ∧ 1 ≤ d ∧ d ≤ 9999 := by
  cases distance with
  | none => exact absurd h nofun
  | some d =>
    refine ⟨d, rfl, ?_⟩
    by_cases hbreak : d = 0 ∨ 9999 < d
    · rw [distanceRefusal, if_pos hbreak] at h
      exact absurd h nofun
    · omega

/-- R83: a record that takes a label is of the label's slot and job. -/
theorem offerRefusal_none (h : offerRefusal job slot serial r = none) : r.slot = slot ∧ r.jobId = job.jobId := by
  by_cases hne : r.slot ≠ slot ∨ r.jobId ≠ job.jobId
  · rw [offerRefusal_jobChange hne] at h
    exact absurd h nofun
  · exact (not_or.mp hne).imp Decidable.not_not.mp Decidable.not_not.mp

end

/-- Settles O32, by the tests in their order. -/
theorem offerIsRefusedByTheFirstTest : Obligations.OfferIsRefusedByTheFirstTest := by
  intro job slot serial r
  refine ⟨offerRefusal_jobChange, fun hs hid => ⟨offerRefusal_unserialized hs hid, fun hj sp k a hr hk ha => ?_⟩⟩
  rw [offerRefusal_serialized hs hid hj hr hk ha]
  refine ⟨distanceRefusal_serialBreak, fun h1 => ?next, fun d hd h2 h9 => ?gap⟩
  case next => rw [h1, distanceRefusal_next]
  case gap =>
    rw [hd, distanceRefusal_gap _ h2 h9]
    exact ⟨fun h => if_pos (Nat.le_of_eq h.symm), fun h => if_neg (Nat.not_le.mpr h)⟩

/-! ### The record and the state after a commit (R85, R129) -/

/-- R85, R129: the record after a label that it takes is committed to it. -/
theorem committedRecord_taken {job : JobRecord} {slot : JobSlot} {serial : Option Nat} {r : StackRecord}
    (h : offerRefusal job slot serial r = none) :
    committedRecord job serial r =
      { r with
          committed := r.committed + 1
          serial := if job.serialized then serialAfterCommit job serial r.serial else r.serial } := by
  have hserial (hj : job.serialized = true) : r.serial.map (commitSerial job serial) =
      serialAfterCommit job serial r.serial := by
    cases hr : r.serial with
    | none => cases serial <;> rfl
    | some sp =>
      cases serial with
      | none => rfl
      | some k =>
        cases ha : sp.lastCommitted with
        | none => simp only [Option.map_some, commitSerial, serialAfterCommit, ha]
        | some a =>
          obtain ⟨hs, hid⟩ := offerRefusal_none h
          rw [offerRefusal_serialized hs hid hj hr rfl ha] at h
          obtain ⟨d, hd, h1, h9⟩ := distanceRefusal_none h
          have hgap : (2 ≤ d ∧ d ≤ 9999) ↔ ¬d = 1 := by omega
          simp only [Option.map_some, commitSerial, serialAfterCommit, ha, hd, hgap, Option.some.injEq, ite_not]
  unfold committedRecord
  cases hj : job.serialized with
  | true => rw [hserial hj]
  | false => rfl

/-- R84: a BLOCKED lane becomes ACTIVE at a commit. -/
def runAfterCommit : RunState → RunState
  | .blocked _ => .active
  | x => x

/-- R85: what a commit writes before the test of the target: the entry, record `q` and the lane's run state. -/
def labelCommitted (s : State) (i : RingSlot) (r : RowRecord) (l : Lane) (n : StackNo) (q : StackRecord) : State :=
  { s with
      memory := { s.memory with stackRecs := vset s.memory.stackRecs n q }
      ring := { s.ring with
        slots := vset s.ring.slots i
          (some (r.setEntry l { r.lanes[l] with disposition := .stack n, landing := .awaiting })) }
      lanes := vset s.lanes l { s.lanes[l] with run := runAfterCommit s.lanes[l].run } }

theorem labelCommitted_stack {s : State} (hd : s.memory.damagedSet = []) (i : RingSlot) (r : RowRecord) (l : Lane)
    (n : StackNo) (q : StackRecord) : (labelCommitted s i r l n q).stack n = q := by
  rw [stack_image _ _ (by exact hd)]
  exact vset_get_same _ _ _

/-- R85: a commit, and the seal with TARGET when the committed count reaches the target. -/
theorem commitLabel_eq {s : State} {i : RingSlot} {r : RowRecord} {l : Lane} {job : JobRecord} {n : StackNo}
    {q : StackRecord} (hr : s.rowAt i = some r) (hd : s.memory.damagedSet = [])
    (hq : committedRecord job r.lanes[l].serial (s.stack n) = q) :
    s.commitLabel i l r.lanes[l] job n =
      if q.committed = q.target then
        ((labelCommitted s i r l n q).setStack n { q with state := .sealed, sealReason := some .target }).completeTest n
      else labelCommitted s i r l n q := by
  have hseal : (labelCommitted s i r l n q).seal n .target =
      ((labelCommitted s i r l n q).setStack n { q with state := .sealed, sealReason := some .target }).completeTest n := by
    rw [seal_eq, labelCommitted_stack hd]
  rw [← hseal, State.commitLabel, setEntry_row hr, hq]
  rfl

/-! ### The OPEN record of the lane (R83 to R85) -/

theorem commitStage_none {s : State} {l : Lane} (h : s.openOf l = none) (i : RingSlot) (row : RowNo) (e : LaneEntry)
    (j : JobSlot) : s.commitStage i row l e j = s.commitToNew i row l e j := by
  rw [State.commitStage, h]

theorem commitStage_refused {s : State} {l : Lane} {n : StackNo} {e : LaneEntry} {j : JobSlot} {reason : SealReason}
    (h : s.openOf l = some n) (ho : offerRefusal (s.job j) j e.serial (s.stack n) = some reason) (i : RingSlot)
    (row : RowNo) : s.commitStage i row l e j = (s.seal n reason).commitToNew i row l e j := by
  rw [State.commitStage, h]
  dsimp only
  rw [ho]

theorem commitStage_taken {s : State} {l : Lane} {n : StackNo} {e : LaneEntry} {j : JobSlot}
    (h : s.openOf l = some n) (ho : offerRefusal (s.job j) j e.serial (s.stack n) = none) (i : RingSlot)
    (row : RowNo) : s.commitStage i row l e j = s.commitLabel i l e (s.job j) n := by
  rw [State.commitStage, h]
  dsimp only
  rw [ho]

/-- Settles O34, by whether the lane holds an OPEN record, and whether it takes the label. -/
theorem commitToOpenRecordAdvancesIt : Obligations.CommitToOpenRecordAdvancesIt := by
  refine ⟨fun s i row l e j _ => ⟨fun h => commitStage_none h i row e j, fun n reason h ho => ?refused⟩,
    fun s i r l j n hs hr h ho q t hq ht => ?taken⟩
  case refused => rw [commitStage_refused h ho, seal_eq]
  case taken =>
    have ht' : t = labelCommitted s i r l n q := ht
    rw [commitStage_taken h ho, commitLabel_eq hr hs.damaged ((committedRecord_taken ho).trans hq.symm), ht']

/-! ### A new record for the lane (R84, R104, R120) -/

theorem newRecordBlock_slots {s : State} {l : Lane} (h : 2 ≤ (s.pile l).length) : s.newRecordBlock l = some .slots :=
  if_pos h

theorem newRecordBlock_noRecord {s : State} {l : Lane} (h : (s.pile l).length < 2)
    (hf : ∀ n, (s.stack n).state ≠ .free) : s.newRecordBlock l = some .noRecord := by
  rw [State.newRecordBlock, if_neg (Nat.not_le.mpr h), lowestFree_none.mpr hf]
  rfl

theorem newRecordBlock_none {s : State} {l : Lane} {n : StackNo} (h : (s.pile l).length < 2)
    (hf : (s.stack n).state = .free) : s.newRecordBlock l = none := by
  have hsome : s.lowestFree.isNone = false := by
    rw [Option.isNone_eq_false_iff, Option.isSome_iff_ne_none, ne_eq, lowestFree_none]
    exact fun hn => hn n hf
  rw [State.newRecordBlock, if_neg (Nat.not_le.mpr h), hsome]
  rfl

/-- R87: the skip cause is set whatever the run state becomes. -/
theorem skipAfter_withRun (u : LaneUnit) (x : RunState) (c : Cause) (row : RowNo) :
    skipAfter { u with run := x } c row = { skipAfter u c row with run := x } := by
  obtain ⟨_, _, _, cause, _, _, _⟩ := u
  cases cause <;> rfl

/-- R84: no record can be had for the lane. -/
theorem commitToNew_blocked {s : State} {l : Lane} {c : BlockedCause} (h : s.newRecordBlock l = some c) (i : RingSlot)
    (row : RowNo) (e : LaneEntry) (j : JobSlot) : s.commitToNew i row l e j = s.blockLabel i row l e c := by
  rw [State.commitToNew, h]

theorem blockLabel_row {s : State} {i : RingSlot} {r : RowRecord} (hr : s.rowAt i = some r) (row : RowNo) (l : Lane)
    (e : LaneEntry) (c : BlockedCause) :
    s.blockLabel i row l e c =
      { s with
          lanes := vset s.lanes l { skipAfter s.lanes[l] (.waste .blocked) row with run := .blocked c }
          ring := { s.ring with
            slots := vset s.ring.slots i (some (r.setEntry l { e with disposition := .waste .blocked })) } } := by
  rw [State.blockLabel, wasteLabel_row (by exact hr)]
  simp only [State.setRun, State.setLane, vset_get_same, vset_vset, skipAfter_withRun]

/-- R121: the lowest-numbered FREE record is opened. -/
theorem commitToNew_opens {s : State} {l : Lane} {n : StackNo} (h : (s.pile l).length < 2)
    (hf : (s.stack n).state = .free) (hm : ∀ m, m < n → (s.stack m).state ≠ .free) (i : RingSlot) (row : RowNo)
    (e : LaneEntry) (j : JobSlot) : s.commitToNew i row l e j = s.openAndCommit i l e j n := by
  rw [State.commitToNew, newRecordBlock_none h hf, lowestFree_some hf hm]

/-- R113: a serial lies no step away from itself. -/
theorem serialDistance_self (mode : SerialMode) (step a : Nat) : serialDistance mode step a a = some 0 := by
  cases mode <;> simp [serialDistance]

/-- R85, R120: the record opened for a label, with that label committed to it as its first. -/
theorem committedRecord_opened (job : JobRecord) (j : JobSlot) (l : Lane) (serial : Option Nat) :
    committedRecord job serial (openedRecord job j l serial) = { openedRecord job j l serial with committed := 1 } := by
  unfold committedRecord openedRecord
  cases hj : job.serialized with
  | false => rfl
  | true => cases serial <;> simp [commitSerial, serialDistance_self, StackRecord.zero]

/-- R104, R120: what the opening of record `n` for a job in slot `j` writes. -/
def recordOpened (s : State) (j : JobSlot) (n : StackNo) (q : StackRecord) : State :=
  { s with memory := { s.memory with
      stackRecs := vset s.memory.stackRecs n q
      jobRecs := vset s.memory.jobRecs j
        { s.job j with nextOrdinal := if (s.job j).nextOrdinal = 65535 then 1 else (s.job j).nextOrdinal + 1 } } }

theorem openAndCommit_clean {s : State} (hc : s.clean) (i : RingSlot) (l : Lane) (e : LaneEntry) (j : JobSlot)
    (n : StackNo) :
    s.openAndCommit i l e j n =
      (recordOpened s j n (openedRecord (s.job j) j l e.serial)).commitLabel i l e (s.job j) n := by
  rw [State.openAndCommit, clearFlips_clean (by exact hc)]
  rfl

/-- Settles O35, by what keeps the lane from a new record, if anything does. -/
theorem newRecordIsOpenedOrLaneBlocked : Obligations.NewRecordIsOpenedOrLaneBlocked := by
  refine fun s i r l j hs hr => ⟨fun c h => ?blocked, fun n h hf hm q t hq ht => ?opened⟩
  case blocked =>
    have hblock : s.newRecordBlock l = some c := by
      rcases h with ⟨hpile, rfl⟩ | ⟨hpile, hfree, rfl⟩
      · exact newRecordBlock_slots hpile
      · exact newRecordBlock_noRecord hpile hfree
    rw [commitToNew_blocked hblock, blockLabel_row hr]
  case opened =>
    have hstack : (recordOpened s j n (openedRecord (s.job j) j l r.lanes[l].serial)).stack n =
        openedRecord (s.job j) j l r.lanes[l].serial := by
      rw [stack_image _ _ (by exact hs.damaged)]
      exact vset_get_same _ _ _
    have hq' : committedRecord (s.job j) r.lanes[l].serial
        ((recordOpened s j n (openedRecord (s.job j) j l r.lanes[l].serial)).stack n) = q := by
      rw [hstack, committedRecord_opened, hq]
      rfl
    have ht' : t = labelCommitted (recordOpened s j n (openedRecord (s.job j) j l r.lanes[l].serial)) i r l n q := by
      rw [ht, labelCommitted, recordOpened]
      simp only [vset_vset]
      rfl
    have hone : q.committed = q.target ↔ q.target = 1 := by rw [hq]; exact eq_comm
    rw [commitToNew_opens h hf hm, openAndCommit_clean hs.clean, commitLabel_eq (by exact hr) (by exact hs.damaged) hq', ht']
    simp only [hone]

/-! ### The unblock test (R84, R89) -/

theorem exec_laneUnblock (s : State) : exec .laneUnblock s = .next s.unblockLanes := rfl

/-- R89: the run state of a lane after the test. -/
theorem unblockLanes_run (s : State) (l : Lane) :
    s.unblockLanes.lanes[l] = { s.lanes[l] with run := runAfterUnblock (s.newRecordBlock l) s.lanes[l].run } :=
  vtab_get _ l

theorem runAfterUnblock_stays {x : RunState} (b : Option BlockedCause) (h : ∀ c, x ≠ .blocked c) :
    runAfterUnblock b x = x := by
  cases x with
  | blocked c => exact absurd rfl (h c)
  | _ => rfl

/-- Settles O36, lane by lane, by the test for a new record. -/
theorem unblockTestFreesOrKeepsBlockedLanes : Obligations.UnblockTestFreesOrKeepsBlockedLanes := by
  refine fun s => ⟨s.unblockLanes, exec_laneUnblock s, rfl, fun l => ?_⟩
  rw [unblockLanes_run]
  refine ⟨rfl, fun h => runAfterUnblock_stays _ h, fun c hb => ?_⟩
  simp only [hb, runAfterUnblock]
  refine ⟨fun h => ?_, fun h hf => ?_, fun n h hf => ?_⟩
  · rw [newRecordBlock_slots h]
  · rw [newRecordBlock_noRecord h hf]
  · rw [newRecordBlock_none h hf]

end Sys2Proof.Proofs
end

section
/-! SUPPORT. A pocket pulse credited to its label: the lane's part, the landing counted on the stack record, and the gap
check in the steps and the direction of the record's job. -/

namespace Sys2Proof.Proofs

open Sys2Proof Sys2Proof.Machine Sys2Proof.Laws

/-! ### The row and the lane of a landing (R87, R92, R93) -/

/-- R92: the pulse is credited to the oldest row whose landing window holds it. -/
theorem takePocket_first {s : State} {l : Lane} {i : RingSlot} {r : RowRecord}
    (hb : ¬posBefore s.position.position s.position.highWater)
    (h : s.firstOpen (fun q => q.lanes[l].landing = .awaiting ∧
      posWithin s.position.position (posAdd (posAdd q.mark s.work.dGate) s.work.lMin)
        (posAdd (posAdd q.mark s.work.dGate) s.work.lMax)) i r) : s.takePocket l = s.creditLanding i r l := by
  rw [State.takePocket, if_neg hb, findOpen_first (landingWindowHas_iff s l _) h]
  simp only [firstOpen_rowAt h]

/-- R87: the lane after a credited landing. -/
theorem landed_eq (u : LaneUnit) (row : RowNo) :
    u.landed row =
      { u with
          consecutiveLost := 0
          skipCause := match u.skipRow with
            | some k => if posPast row k then none else u.skipCause
            | none => none
          skipRow := match u.skipRow with
            | some k => if posPast row k then none else some k
            | none => none } := by
  unfold LaneUnit.landed
  cases u.skipRow <;> rfl

/-- R93: the landing of a stacked label, in the order of that rule: the entry, the record, the lane, the completion test and
the finished test. -/
theorem creditLanding_stack {s a b : State} {i : RingSlot} {r : RowRecord} {l : Lane} {n : StackNo}
    (hr : s.rowAt i = some r) (hd : r.lanes[l].disposition = .stack n)
    (ha : s.setRow i (r.setEntry l { r.lanes[l] with landing := .landed }) = a)
    (hb : a.creditStack l r.lanes[l] n = b) :
    s.creditLanding i r l =
      State.retireRows (State.completeTest (b.setLane l (b.lanes[l].landed r.number)) n) := by
  rw [State.creditLanding, setEntry_row hr]
  dsimp only at ha ⊢
  rw [ha, hd]
  dsimp only
  rw [hb]

/-! ### The landing counted on the record (R93, R123) -/

/-- R178: a record that a reader finds QUARANTINED with cause DAMAGED is damaged. -/
theorem isDamaged_of_quarantined {s : State} {n : StackNo} (h : (s.stack n).state = .quarantined .damaged) :
    s.isDamaged (.stack n) = true := by
  rw [State.isDamaged, Bool.or_eq_true]
  unfold State.stack at h
  split at h
  · next hd => exact .inr hd
  · exact .inl (beq_iff_eq.mpr h)

theorem creditStack_power {s : State} (h : s.pfail = true) (l : Lane) (e : LaneEntry) (n : StackNo) :
    s.creditStack l e n = s := if_pos h

/-- R93: nothing is written to a record that the read finds damaged. -/
theorem creditStack_damaged {s t : State} {n : StackNo} (hp : s.pfail = false) (ht : t = readRecord (.stack n) s)
    (h : (t.stack n).state = .quarantined .damaged) (l : Lane) (e : LaneEntry) : s.creditStack l e n = t := by
  subst ht
  exact (if_neg (by rw [hp]; decide)).trans (if_pos h)

/-- R93, R181: a damaged record is left as it is. -/
theorem creditStack_stays {s : State} {n : StackNo} (h : (s.stack n).state = .quarantined .damaged) (l : Lane)
    (e : LaneEntry) : s.creditStack l e n = s := by
  cases hp : s.pfail with
  | true => exact creditStack_power hp l e n
  | false => exact creditStack_damaged hp (readRecord_damaged _ s (isDamaged_of_quarantined h)).symm h l e

/-- R93: on a clean image the landing of a label, or on a record, without serials makes no gap check. -/
theorem creditStack_unserialized {s : State} {n : StackNo} (hc : s.clean) (hp : s.pfail = false)
    (hd : (s.stack n).state ≠ .quarantined .damaged) (l : Lane) {e : LaneEntry}
    (h : (s.stack n).serial = none ∨ e.serial = none) :
    s.creditStack l e n = s.setStack n (landedRecord (s.stack n)) := by
  rw [State.creditStack, if_neg (by rw [hp]; decide), readRecord_clean _ s hc]
  refine (if_neg hd).trans ?_
  rcases h with hs | hk
  · rw [hs]
  · rw [hk]
    cases (s.stack n).serial <;> rfl

/-- R93, R130: on a clean image the landing of a serial is counted with the gap check. -/
theorem creditStack_serialized {s : State} {n : StackNo} (hc : s.clean) (hp : s.pfail = false)
    (hd : (s.stack n).state ≠ .quarantined .damaged) (l : Lane) {e : LaneEntry} {sp : SerialPart} {k : Nat}
    (hs : (s.stack n).serial = some sp) (hk : e.serial = some k) {mode : SerialMode} {step : Nat}
    (hst : strideOf (s.job (s.stack n).slot) s.freeCount = (mode, step)) :
    s.creditStack l e n =
      { s with freeCount := s.freeCount + 1 }.setStack n
        (gapCheck mode step s.lanes[l].skipCause k (landedRecord (s.stack n))) := by
  rw [State.creditStack, if_neg (by rw [hp]; decide), readRecord_clean _ s hc]
  refine (if_neg hd).trans ?_
  rw [hs, hk]
  dsimp only
  rw [readRecord_clean _ s hc, hst]
  rfl

/-- R118: the steps and the direction of a gap check. -/
theorem strideOf_exists (job : JobRecord) (free : Nat) :
    ∃ mode step, strideOf job free = (mode, step) ∧
      (job.serialized = true → mode = job.serialMode ∧ step = job.step) ∧
      (job.serialized = false → (mode = .up ∨ mode = .down) ∧ 1 ≤ step ∧ step ≤ 16) := by
  refine ⟨(strideOf job free).1, (strideOf job free).2, rfl, ?_⟩
  unfold strideOf
  cases job.serialized with
  | true => exact ⟨fun _ => ⟨rfl, rfl⟩, nofun⟩
  | false =>
    refine ⟨nofun, fun _ => ⟨?_, ?_⟩⟩
    · cases (Config.lostStride free).2
      · exact .inl rfl
      · exact .inr rfl
    · simp only [Bool.false_eq_true, if_false]
      omega

/-- R126: a QUARANTINED record is not complete. -/
theorem not_complete_of_damaged {r : StackRecord} (h : r.state = .quarantined .damaged) : r.complete = false := by
  simp [StackRecord.complete, h]

section
variable {s a b : State} {l : Lane} {i : RingSlot} {r : RowRecord} {n : StackNo}
  (hb : ¬posBefore s.position.position s.position.highWater)
  (hf : s.firstOpen (fun q => q.lanes[l].landing = .awaiting ∧
    posWithin s.position.position (posAdd (posAdd q.mark s.work.dGate) s.work.lMin)
      (posAdd (posAdd q.mark s.work.dGate) s.work.lMax)) i r)
  (hd : r.lanes[l].disposition = .stack n)
  (ha : s.setRow i (r.setEntry l { r.lanes[l] with landing := .landed }) = a)
  (hcredit : a.creditStack l r.lanes[l] n = b)
include hb hf hd ha hcredit

/-- R92, R93: POCKET, with the state that the credit of the stack record leaves. -/
theorem pocket_credits : exec (.pocket l) s =
    .next (State.retireRows (State.completeTest (b.setLane l (b.lanes[l].landed r.number)) n)) := by
  rw [exec_pocket, takePocket_first hb hf, creditLanding_stack (firstOpen_rowAt hf) hd ha hcredit]

/-- R93: POCKET on a record that is damaged, or found damaged by the credit. -/
theorem pocket_finds_damaged (h : (b.stack n).state = .quarantined .damaged) :
    exec (.pocket l) s = .next (State.retireRows (b.setLane l (b.lanes[l].landed r.number))) := by
  rw [pocket_credits hb hf hd ha hcredit, completeTest_stays (.inr (by exact not_complete_of_damaged h))]

end

/-- Settles O38, by PFAIL, by whether the record is damaged, and by whether record and label hold serials. -/
theorem pocketPulseCreditsOldestLandingWindow : Obligations.PocketPulseCreditsOldestLandingWindow := by
  intro s l i r n landed hb hf hdisp hlanded a t ha ht
  obtain rfl : landed = (LaneUnit.landed · r.number) := funext fun x => (hlanded x).trans (landed_eq x r.number).symm
  obtain rfl : t = a.setLane l (a.lanes[l].landed r.number) := by rw [ht, ha]; rfl
  obtain rfl : a = s.setRow i (r.setEntry l { r.lanes[l] with landing := .landed }) := ha
  have hcredit {b : State} := pocket_credits (b := b) hb hf hdisp rfl
  have hfound {b : State} := pocket_finds_damaged (b := b) hb hf hdisp rfl
  refine ⟨fun hd => hfound (creditStack_stays (by exact hd) l _) hd,
    fun v hp hv hd => hfound (creditStack_damaged (by exact hp) hv hd l _) hd,
    fun hc _ hlive => ⟨fun hp => ?power, fun hp h => ?unserialized, fun sp k hp hs hk => ?serialized⟩⟩
  case power =>
    rw [hcredit (creditStack_power (by exact hp) l _ n), completeTest_stays (.inl (by exact hp))]
  case unserialized =>
    rw [hcredit (creditStack_unserialized (by exact hc) (by exact hp) (by exact hlive) l h)]
    rfl
  case serialized =>
    obtain ⟨mode, step, hst, hjob, hfree⟩ := strideOf_exists (s.job (s.stack n).slot) s.freeCount
    refine ⟨mode, step, hjob, hfree, ?_⟩
    rw [hcredit (creditStack_serialized (by exact hc) (by exact hp) (by exact hlive) l (by exact hs) hk hst)]
    rfl

end Sys2Proof.Proofs
end

section
/-! SUPPORT. An ENDING job slot that no open row references becomes EMPTY, and a drain with no open row completes. -/

namespace Sys2Proof.Proofs

open Sys2Proof Sys2Proof.Machine Sys2Proof.Laws

theorem exec_slotEmpty (j : JobSlot) (s : State) : exec (.slotEmpty j) s = .next (s.emptySlot j) := rfl
theorem exec_drainComplete (s : State) : exec .drainComplete s = .next s.drainTest := rfl

/-! ### The emptying of a slot (R106) -/

section
variable {t : State} {j : JobSlot}

/-- R88: a lane that names a slot neither ACTIVE nor ENDING does not run. -/
theorem runningCondition_slotDown {l : Lane} (hn : t.laneNames l j = true)
    (hj : (t.job j).state ≠ .active ∧ (t.job j).state ≠ .ending) : t.runningCondition l = false := by
  have hslot : (t.laneRec l).slot = some j := beq_iff_eq.mp hn
  simp [State.runningCondition, hslot, hj]

/-- R106: what the lanes of a list become when the slot they may name is neither ACTIVE nor ENDING (`foldl_laneLosesJob_lane`
is the case of a DAMAGED slot). -/
theorem foldl_laneLosesJob_slotDown {ls : List Lane} (hl : ls.Nodup)
    (hj : (t.job j).state ≠ .active ∧ (t.job j).state ≠ .ending) (k : Lane) :
    (ls.foldl (fun u l => if u.laneNames l j then u.laneLosesJob l else u) t).lanes[k] =
      if k ∈ ls ∧ t.laneNames k j = true then laneStopped t.lanes[k] else t.lanes[k] := by
  induction ls generalizing t with
  | nil => simp
  | cons l ls ih =>
    obtain ⟨hnot, hl⟩ := List.nodup_cons.mp hl
    rw [List.foldl_cons]
    by_cases hn : t.laneNames l j = true
    · rw [if_pos hn, laneLosesJob_stops fun u => runningCondition_slotDown (by exact hn) (by exact hj),
        ih hl (by exact hj), setLane_lanes, vset_get]
      change (if k ∈ ls ∧ t.laneNames k j = true then _ else _) = _
      by_cases hk : l = k
      · subst hk
        simp [hnot, hn]
      · simp [hk, Ne.symm hk]
    · rw [if_neg hn, ih hl hj]
      by_cases hk : k = l
      · subst hk
        simp [hn]
      · simp [hk]

/-- R106: the lane table's part when a slot is neither ACTIVE nor ENDING any more. -/
theorem slotGone_slotDown (hj : (t.job j).state ≠ .active ∧ (t.job j).state ≠ .ending) :
    t.slotGone j =
      { t with lanes := vtab (fun l => if t.laneNames l j then laneStopped t.lanes[l] else t.lanes[l]) } := by
  have hlanes : (t.slotGone j).lanes =
      vtab (fun l => if t.laneNames l j then laneStopped t.lanes[l] else t.lanes[l]) := by
    apply vector_ext
    intro k
    rw [vtab_get, State.slotGone, foldl_laneLosesJob_slotDown (List.nodup_finRange 12) hj]
    simp only [List.mem_finRange, true_and]
  rw [slotGone_lanes, hlanes]

end

/-- R106: on a sound part an ENDING slot that no open row references becomes EMPTY. -/
theorem emptySlot_empties {s : State} {j : JobSlot} (hs : s.sound) (he : (s.job j).state = .ending)
    (hr : s.slotReferenced j = false) :
    s.emptySlot j =
      { s.setJob j { s.job j with state := .empty } with
          lanes := vtab (fun l => if s.laneNames l j then laneStopped s.lanes[l] else s.lanes[l]) } := by
  have hjob : (s.setJob j { s.job j with state := .empty }).job j = { s.job j with state := .empty } := by
    rw [job_image _ _ (by exact hs.damaged)]
    exact vset_get_same _ _ _
  rw [State.emptySlot, if_pos ⟨hs.power, he, hr⟩, readRecord_clean _ s hs.clean]
  refine (if_pos he).trans ((slotGone_slotDown ?_).trans rfl)
  rw [hjob]
  exact ⟨nofun, nofun⟩

/-! ### The drain (R97, R163) -/

theorem drainTest_stays {s : State} (h : s.modes.mode ≠ .draining ∨ s.ring.openCount ≠ 0) : s.drainTest = s :=
  if_neg fun ⟨hm, ho⟩ => h.elim (· hm) (· ho)

/-- R97, R163: on a clean image T is saved in a sound geometry record while PFAIL is negated. -/
theorem saveTrim_eq {s : State} (hc : s.clean) :
    State.saveTrimWith readRecord s =
      { s with memory := { s.memory with geometry :=
          if s.pfail = true ∨ s.geometryDamaged = true then s.memory.geometry
          else { s.memory.geometry with savedTrim := s.register.trim } } } := by
  by_cases h : s.pfail = true ∨ s.geometryDamaged = true
  · rw [if_pos h]
    exact if_pos h
  · obtain ⟨hp, hd⟩ := not_or.mp h
    rw [saveTrim_clean hc (by simpa using hp), if_neg hd, if_neg h]

/-- R163: the drain completes. -/
theorem drainTest_completes {s : State} (hc : s.clean) (hm : s.modes.mode = .draining) (ho : s.ring.openCount = 0) :
    s.drainTest =
      { s with
          modes := { s.modes with mode := .parked }
          lanes := vtab (fun l => { s.lanes[l] with gate := .waste })
          memory := { s.memory with geometry :=
            if s.pfail = true ∨ s.geometryDamaged = true then s.memory.geometry
            else { s.memory.geometry with savedTrim := s.register.trim } }
          attention := { s.attention with latched := s.attention.latched ||| Attention.modeReached.set } } := by
  refine (if_pos ⟨hm, ho⟩).trans ?_
  rw [saveTrim_eq (by exact hc)]
  rfl

/-- Settles O44, by the conditions of the two events. -/
theorem slotEmptiesAndDrainCompletes : Obligations.SlotEmptiesAndDrainCompletes := by
  refine ⟨fun s j => ⟨fun h => ?slotStays, fun hs he hr => ?slotEmpties⟩,
    fun s => ⟨fun h => ?drainStays, fun hc hm ho => ?drainCompletes⟩⟩
  case slotStays => rw [exec_slotEmpty, emptySlot_stays h]
  case slotEmpties => rw [exec_slotEmpty, emptySlot_empties hs he hr]; rfl
  case drainStays => rw [exec_drainComplete, drainTest_stays h]
  case drainCompletes => rw [exec_drainComplete, drainTest_completes hc hm ho]

end Sys2Proof.Proofs
end

section
/-! SUPPORT. The requests that configure a lane: the running condition, LANE WRITE and LANE CLEAR. -/

namespace Sys2Proof.Proofs

open Sys2Proof Sys2Proof.Machine Sys2Proof.Laws

theorem exec_laneWrite (p : LanePayload) (s : State) :
    exec (.laneWrite p) s =
      .next ((s.framed 10).request (flagForm p.enabled && flagForm p.originPresent) (laneWriteRule p)) := rfl
theorem exec_laneClear (b close : Byte) (s : State) :
    exec (.laneClear b close) s = .next ((s.framed 2).request (flagForm close) (laneClearRule b close)) := rfl

/-! ### The running condition (R88) -/

theorem runningCondition_iff (s : State) (l : Lane) :
    s.runningCondition l = true ↔
      (s.laneRec l).enabled = true ∧ ∃ j, (s.laneRec l).slot = some j ∧
        ((s.job j).state = .active ∨ (s.job j).state = .ending) ∧
        ((s.job j).serialized = true → s.lanes[l].rowOrigin ≠ .none) := by
  rw [State.runningCondition, Bool.and_eq_true]
  refine and_congr_right fun _ => ?_
  cases (s.laneRec l).slot with
  | none => exact ⟨nofun, nofun⟩
  | some j =>
    simp only [Option.some.injEq, exists_eq_left', Bool.and_eq_true, Bool.or_eq_true, beq_iff_eq, Bool.not_eq_true',
      bne_iff_ne]
    refine and_congr_right fun _ => ?_
    rw [← Bool.not_eq_true, Decidable.imp_iff_not_or]

theorem retestLane_eq (s : State) (l : Lane) :
    s.retestLane l =
      { s with lanes := vset s.lanes l { s.lanes[l] with run :=
          match s.lanes[l].run with
          | .jammed => .jammed
          | .blocked c => if s.runningCondition l then .blocked c else .off
          | _ => if s.runningCondition l then .active else .off } } := by
  unfold State.retestLane runAfterTest
  cases s.lanes[l].run <;> rfl

/-! ### The fields of the payloads (R109, R192, R193) -/

theorem flagForm_iff (b : Byte) : flagForm b = true ↔ b = 0 ∨ b = 1 := by
  rw [flagForm, Bool.or_eq_true, beq_iff_eq, beq_iff_eq]

theorem flagForm_above {b : Byte} (h : 1 < b.toNat) : flagForm b = false := by
  rw [Bool.eq_false_iff, ne_eq, flagForm_iff]
  rintro (rfl | rfl) <;> exact absurd h (by decide)

theorem slotArg_none {b : Byte} (h : b = 0xFF) : slotArg b = some none := if_pos h

theorem slotArg_slot {b : Byte} {j : JobSlot} (h : b.toNat = j.val) : slotArg b = some (some j) := by
  have hne : b ≠ 0xFF := by
    rintro rfl
    have := j.isLt
    exact absurd (h.symm ▸ this : (0xFF : Byte).toNat < 16) (by decide)
  rw [slotArg, if_neg hne, indexArg_of h]

theorem slotArg_above {b : Byte} (h : 15 < b.toNat) (hne : b ≠ 0xFF) : slotArg b = none := by
  rw [slotArg, if_neg hne, indexArg_none h]

theorem laneInRange_iff (p : LanePayload) :
    LanePayload.inRange p = true ↔
      p.priority.toNat ≤ 15 ∧ (p.weight = 1 ∨ p.weight = 2 ∨ p.weight = 4 ∨ p.weight = 8) ∧
        (p.originPresent = 1 → p.origin.toNat ≤ 99999999) := by
  simp only [LanePayload.inRange, weightForm, Bool.and_eq_true, Bool.or_eq_true, decide_eq_true_eq, beq_iff_eq,
    bne_iff_ne, or_assoc, and_assoc, Decidable.imp_iff_not_or]

/-- R190: a request is ERR_ARG when a field breaks its form or its rule refuses the argument. -/
theorem request_errArg {s : State} {form : Bool} {act : State → State × Status × List Byte} (hp : s.pfail = false)
    (ha : form = true → act { s with port := .building } = refuse { s with port := .building } .errArg) :
    s.request form act = { s with port := .ready (responseFrame .errArg []) } := by
  cases form with
  | false => exact request_form hp act
  | true => exact request_refuses hp (ha rfl)

/-! ### LANE WRITE (R109, R110) -/

/-- R109: a LANE WRITE outside its ranges is refused before it reads or writes. -/
theorem laneWriteRule_refuses {s : State} {p : LanePayload}
    (h : laneArg p.lane = none ∨ slotArg p.slot = none ∨ LanePayload.inRange p = false) :
    laneWriteRule p s = refuse s .errArg := by
  unfold laneWriteRule
  split
  · next l slot hl hslot =>
    rw [hl, hslot] at h
    exact if_neg (by simpa using h)
  · rfl

/-- R109, R110: a LANE WRITE taken, with the state and the stack that the running condition's test leaves. -/
theorem laneWriteRule_taken {s t : State} {p : LanePayload} {l : Lane} {slot : Option JobSlot}
    {r : State × Option StackNo} (hc : s.clean) (hl : laneArg p.lane = some l) (hslot : slotArg p.slot = some slot)
    (hr : LanePayload.inRange p = true) (ht : s.writeLane p l slot = t) (hseal : t.sealStopped l = r) :
    laneWriteRule p s = reply r.1 (lanePayload r.1 l r.2) := by
  have hread : s.readForLaneWrite p l = s := by
    unfold State.readForLaneWrite
    rw [readRecord_clean _ s hc, ite_self]
  rw [laneWriteRule, hl, hslot]
  dsimp only
  rw [if_pos hr, hread, ht, hseal]

/-- R110: a lane that runs, or that holds no OPEN stack, seals none. -/
theorem sealStopped_stays {t : State} {l : Lane} (h : t.runningCondition l = true ∨ t.openOf l = none) :
    t.sealStopped l = (t, none) := by
  unfold State.sealStopped
  split
  · rfl
  · next hr => rw [sealLane_none (h.resolve_left hr)]

/-- R110: the OPEN stack of a lane that does not run is sealed with LANE_OFF. -/
theorem sealStopped_seals {t : State} {l : Lane} {n : StackNo} (hc : t.clean) (hp : t.pfail = false)
    (hr : t.runningCondition l = false) (hn : t.openOf l = some n) :
    t.sealStopped l = (t.seal n .laneOff, some n) := by
  rw [State.sealStopped, if_neg (by rw [hr]; decide), sealLane_open hc hp hn]

/-- R108, R109: the record and the row origin that a LANE WRITE leaves. -/
def laneWritten (s : State) (p : LanePayload) (l : Lane) (slot : Option JobSlot) : State :=
  { s.setLaneRec l
      { damaged := false
        enabled := decide (p.enabled = 1)
        slot := slot
        origin := if p.originPresent = 1 then p.origin.toNat else s.memory.laneRecs[l].origin
        priority := p.priority.toNat
        weight := p.weight.toNat } with
      lanes := vset s.lanes l { s.lanes[l] with rowOrigin :=
        if p.originPresent = 1 then .pending
        else if s.memory.laneRecs[l].damaged = false ∧ s.memory.laneRecs[l].slot = slot ∧ slot ≠ none then
          s.lanes[l].rowOrigin
        else .none } }

/-- R108 to R110: on a sound part they are written, and the running condition is tested. -/
theorem writeLane_sound {s : State} (hs : s.sound) (p : LanePayload) (l : Lane) (slot : Option JobSlot) :
    s.writeLane p l slot = (laneWritten s p l slot).retestLane l := by
  have hdam : s.isDamaged (.lane l) = s.memory.laneRecs[l].damaged := isDamaged_eq_marked hs.damaged _
  rw [State.writeLane, clearFlips_clean (by exact hs.clean), readAndRetest_clean _ (by exact hs.clean), hdam]
  simp only [writtenLane, rowOriginAfter, Bool.beq_eq_decide_eq, Option.isSome_iff_ne_none]
  rfl

/-- R109, R190: a LANE WRITE taken answers the run state and the stack sealed. -/
theorem laneWrite_taken {s t : State} {p : LanePayload} {l : Lane} {slot : Option JobSlot} {r : State × Option StackNo}
    (hs : s.sound) (he : p.enabled = 0 ∨ p.enabled = 1) (ho : p.originPresent = 0 ∨ p.originPresent = 1)
    (hl : laneArg p.lane = some l) (hslot : slotArg p.slot = some slot) (hr : LanePayload.inRange p = true)
    (ht : State.writeLane { s.framed 10 with port := .building } p l slot = t) (hseal : t.sealStopped l = r) :
    exec (.laneWrite p) s = .next { r.1 with port := .ready (responseFrame .ok (lanePayload r.1 l r.2)) } := by
  rw [exec_laneWrite, (flagForm_iff _).mpr he, (flagForm_iff _).mpr ho, Bool.and_true,
    request_replies (by exact hs.power) (laneWriteRule_taken (by exact hs.clean) hl hslot hr ht hseal)]

/-- R109, R190, R192: a LANE WRITE refused for a field or a range. -/
theorem laneWrite_refused {s : State} {p : LanePayload} (hp : s.pfail = false)
    (h : p.lane.toNat = 0 ∨ 12 < p.lane.toNat ∨ (15 < p.slot.toNat ∧ p.slot ≠ 0xFF) ∨ 1 < p.enabled.toNat ∨
      1 < p.originPresent.toNat ∨ LanePayload.inRange p = false) :
    exec (.laneWrite p) s = .next { s.framed 10 with port := .ready (responseFrame .errArg []) } := by
  rw [exec_laneWrite, request_errArg (by exact hp) fun hform => laneWriteRule_refuses ?_]
  rw [Bool.and_eq_true] at hform
  obtain ⟨he, ho⟩ := hform
  rcases h with h | h | ⟨h, hne⟩ | h | h | h
  · exact .inl (laneArg_none (.inl h))
  · exact .inl (laneArg_none (.inr h))
  · exact .inr (.inl (slotArg_above h hne))
  · exact absurd he (by rw [flagForm_above h]; decide)
  · exact absurd ho (by rw [flagForm_above h]; decide)
  · exact .inr (.inr h)

/-! ### LANE CLEAR (R91) -/

theorem laneClearRule_refuses {s : State} {b close : Byte} (h : b.toNat = 0 ∨ 12 < b.toNat) :
    laneClearRule b close s = refuse s .errArg := by
  rw [laneClearRule, laneArg_none h]

theorem laneClearRule_notJammed {s : State} {b : Byte} {l : Lane} (hb : b.toNat = l.val + 1)
    (h : s.lanes[l].run ≠ .jammed) (close : Byte) : laneClearRule b close s = refuse s .errState := by
  rw [laneClearRule, laneArg_of hb]
  exact if_neg h

/-- R91: a LANE CLEAR taken, with the state and the stack that the close option leaves. -/
theorem laneClearRule_taken {s t : State} {b close : Byte} {l : Lane} {r : State × Option StackNo} (hc : s.clean)
    (hb : b.toNat = l.val + 1) (h : s.lanes[l].run = .jammed) (ht : s.unjam l = t)
    (hr : (if close = 1 then t.sealLane l .close else (t, none)) = r) :
    laneClearRule b close s = reply r.1 (lanePayload r.1 l r.2) := by
  rw [laneClearRule, laneArg_of hb]
  refine (if_pos h).trans ?_
  rw [readForOpening_clean s l hc, ht]
  dsimp only
  rw [hr]

/-- R91, R190: a LANE CLEAR taken answers the run state and the stack sealed. -/
theorem laneClear_taken {s t : State} {b close : Byte} {l : Lane} {r : State × Option StackNo} (hs : s.sound)
    (hclose : close = 0 ∨ close = 1) (hb : b.toNat = l.val + 1) (h : s.lanes[l].run = .jammed)
    (ht : State.unjam { s.framed 2 with port := .building } l = t)
    (hr : (if close = 1 then t.sealLane l .close else (t, none)) = r) :
    exec (.laneClear b close) s =
      .next { r.1 with port := .ready (responseFrame .ok (lanePayload r.1 l r.2)) } := by
  rw [exec_laneClear, (flagForm_iff close).mpr hclose,
    request_replies (by exact hs.power) (laneClearRule_taken (by exact hs.clean) hb (by exact h) ht hr)]

/-- R91: without the close option, or with no OPEN stack, nothing is sealed. -/
theorem closeOption_stays {t : State} {close : Byte} {l : Lane} (h : close = 0 ∨ t.openOf l = none) :
    (if close = 1 then t.sealLane l .close else (t, none)) = (t, none) := by
  split
  · next h1 => exact sealLane_none (h.resolve_left (by rw [h1]; decide)) _
  · rfl

/-- R190, R192: a LANE CLEAR refused for its arguments. -/
theorem laneClear_refused {s : State} {b close : Byte} (hp : s.pfail = false)
    (h : b.toNat = 0 ∨ 12 < b.toNat ∨ 1 < close.toNat) :
    exec (.laneClear b close) s = .next { s.framed 2 with port := .ready (responseFrame .errArg []) } := by
  rw [exec_laneClear, request_errArg (by exact hp) fun hform => laneClearRule_refuses ?_]
  rcases h with h | h | h
  · exact .inl h
  · exact .inr h
  · exact absurd hform (by rw [flagForm_above h]; decide)

/-- Settles O57, by the running condition, then by the two requests, taken and refused. -/
theorem laneWriteConfiguresAndLaneClearUnjams : Obligations.LaneWriteConfiguresAndLaneClearUnjams := by
  refine ⟨fun s l holds h => ?retest, fun s p l slot hs hl hslot he ho hr t ht => ?write,
    fun s b close hs hclose l hb => ⟨fun hj => ?notJammed, fun hj t ht => ?clear⟩, laneInRange_iff,
    fun s p b close hp => ⟨laneWrite_refused hp, laneClear_refused hp⟩⟩
  case retest =>
    obtain rfl : holds = s.runningCondition l := Bool.eq_iff_iff.mpr (h.trans (runningCondition_iff s l).symm)
    exact retestLane_eq s l
  case write =>
    have harg : slotArg p.slot = some slot := by
      rcases hslot with ⟨rfl, h⟩ | ⟨j, rfl, h⟩
      · exact slotArg_none h
      · exact slotArg_slot h
    have hsound : State.sound { s.framed 10 with port := .building } := ⟨hs.clean, hs.power, hs.damaged⟩
    have hwrite : State.writeLane { s.framed 10 with port := .building } p l slot = t := by
      rw [writeLane_sound hsound, ht]
      rfl
    have htaken {r : State × Option StackNo} := laneWrite_taken (r := r) hs he ho (laneArg_of hl) harg hr hwrite
    refine ⟨fun h => ?_, fun n u hrun hn hu => ?_⟩
    · rw [htaken (sealStopped_stays h)]
      rfl
    · rw [htaken (sealStopped_seals (by rw [ht]; exact hs.clean) (by rw [ht]; exact hs.power) hrun hn), seal_eq, ← hu]
      rfl
  case notJammed =>
    rw [exec_laneClear, (flagForm_iff close).mpr hclose, request_refuses (by exact hs.power)
      (laneClearRule_notJammed hb (by exact hj) close)]
  case clear =>
    have hunjam : State.unjam { s.framed 2 with port := .building } l = t := by rw [ht]; rfl
    have htaken {r : State × Option StackNo} := laneClear_taken (r := r) hs hclose hb hj hunjam
    have hopen : t.openOf l = s.openOf l := by rw [ht]; rfl
    refine ⟨fun h => ?_, fun n u h1 hn hu => ?_⟩
    · rw [htaken (closeOption_stays (h.imp_right hopen.trans))]
      rfl
    · have hseal : t.sealLane l .close = (t.seal n .close, some n) :=
        sealLane_open (by rw [ht]; exact hs.clean) (by rw [ht]; exact hs.power) (hopen.trans hn) _
      rw [htaken ((if_pos h1).trans hseal), seal_eq, ← hu]
      rfl

end Sys2Proof.Proofs
end

section
/-! SUPPORT. Serial numbers and the lane's entry in a row being opened: the serial formula and the distance that inverts it,
and the cases of R27's per-lane part of an opening. -/

namespace Sys2Proof.Proofs

open Sys2Proof Sys2Proof.Machine Sys2Proof.Laws

/-! ### The serial formula and the distance (R112, R113) -/

/-- R112: a number reduced to the serial range is below the size of the serial space. -/
theorem toNat_serialModulus_lt (x : Int) : (x % serialModulus).toNat < 100000000 := by
  unfold serialModulus
  omega

theorem serialAt_lt (mode : SerialMode) (step s0 k : Nat) : serialAt mode step s0 k < 100000000 := by
  cases mode with
  | down => exact toNat_serialModulus_lt (s0 - step * k)
  | _ => exact toNat_serialModulus_lt (s0 + step * k)

/-- R113: the way back from a serial `n` past the origin is `n`, for `n` below the size of the serial space. -/
theorem forward_of_add {n : Nat} (s0 : Nat) (h : n < 100000000) :
    (((((s0 : Int) + n) % serialModulus).toNat - (s0 : Int)) % serialModulus).toNat = n := by
  unfold serialModulus
  omega

/-- R113: the same for a serial `n` below the origin. -/
theorem forward_of_sub {n : Nat} (s0 : Nat) (h : n < 100000000) :
    (((s0 : Int) - (((s0 : Int) - n) % serialModulus).toNat) % serialModulus).toNat = n := by
  unfold serialModulus
  omega

/-- R113: `step * k` forward is `k` whole steps. -/
theorem wholeSteps_mul {step : Nat} (hs : 1 ≤ step) (k : Nat) :
    (if step * k % step = 0 then some (step * k / step) else none) = some k := by
  rw [if_pos (Nat.mul_mod_right step k), Nat.mul_div_cancel_left k hs]

theorem serialDistance_serialAt_up {step k : Nat} (s0 : Nat) (hs : 1 ≤ step) (hk : step * k < 100000000) :
    serialDistance .up step s0 (serialAt .up step s0 k) = some k := by
  have hforward := forward_of_add s0 hk
  rw [Int.natCast_mul] at hforward
  simp only [serialDistance, serialAt, hforward, wholeSteps_mul hs]

theorem serialDistance_serialAt_down {step k : Nat} (s0 : Nat) (hs : 1 ≤ step) (hk : step * k < 100000000) :
    serialDistance .down step s0 (serialAt .down step s0 k) = some k := by
  have hforward := forward_of_sub s0 hk
  rw [Int.natCast_mul] at hforward
  simp only [serialDistance, serialAt, hforward, wholeSteps_mul hs]

/-- Settles O33, by the direction of the serials. -/
theorem serialDistanceInvertsSerialFormula : Obligations.SerialDistanceInvertsSerialFormula := by
  rintro mode step s0 k (rfl | rfl) hs - - hk
  · exact ⟨serialAt_lt _ _ _ _, serialDistance_serialAt_up s0 hs hk⟩
  · exact ⟨serialAt_lt _ _ _ _, serialDistance_serialAt_down s0 hs hk⟩

/-! ### A lane's entry at the opening of a row (R27, R108) -/

/-- R112: no step from its origin, a serial is the origin. -/
theorem serialAt_zero (mode : SerialMode) (step s0 : Nat) : serialAt mode step s0 0 = s0 % 100000000 := by
  cases mode <;> simp only [serialAt, serialModulus] <;> omega

/-- R27: what makes a lane's entry in a row being opened name slot `j`. -/
structure TakesPart (s : State) (l : Lane) (j : JobSlot) : Prop where
  enabled : (s.laneRec l).enabled = true
  running : s.lanes[l].run ≠ .off
  slot : (s.laneRec l).slot = some j
  active : (s.job j).state = .active
  rowOrigin : (s.job j).serialized = true → s.lanes[l].rowOrigin ≠ .none

section
variable {s : State} {number : RowNo} {l : Lane} {j : JobSlot}

theorem takesPart_iff :
    TakesPart s l j ↔
      (s.laneRec l).enabled = true ∧ s.lanes[l].run ≠ .off ∧ (s.laneRec l).slot = some j ∧ (s.job j).state = .active ∧
        ((s.job j).serialized = true → s.lanes[l].rowOrigin ≠ .none) :=
  ⟨fun ⟨he, hr, hslot, ha, ho⟩ => ⟨he, hr, hslot, ha, ho⟩, fun ⟨he, hr, hslot, ha, ho⟩ => ⟨he, hr, hslot, ha, ho⟩⟩

/-- The condition as `laneOpening` tests it for the slot that the lane names. -/
theorem TakesPart.condition (h : TakesPart s l j) :
    (s.laneRec l).enabled = true ∧ s.lanes[l].run ≠ .off ∧ (s.job j).state = .active ∧
      ¬((s.job j).serialized = true ∧ s.lanes[l].rowOrigin = .none) :=
  ⟨h.enabled, h.running, h.active, fun ⟨hs, hn⟩ => h.rowOrigin hs hn⟩

/-- R27: a lane that takes part in no job leaves its entry blank and keeps its row origin. -/
theorem laneOpening_out (h : ∀ j, ¬TakesPart s l j) :
    laneOpening s number l = (LaneEntry.blank, s.lanes[l].rowOrigin) := by
  unfold laneOpening
  dsimp only
  split
  · rfl
  · next j hslot => exact if_neg fun ⟨he, hr, ha, ho⟩ => h j ⟨he, hr, hslot, ha, fun hs hn => ho ⟨hs, hn⟩⟩

/-- R27, R108: a job that is not serialized gives no serial. -/
theorem laneOpening_plain (h : TakesPart s l j) (hs : (s.job j).serialized = false) :
    laneOpening s number l = ({ LaneEntry.blank with snapshot := some j }, s.lanes[l].rowOrigin) := by
  simp only [laneOpening, h.slot]
  rw [if_pos h.condition, if_neg (by rw [hs]; decide)]

/-- R112: a lane with a row origin gives the serial of the steps since that row. -/
theorem laneOpening_row (h : TakesPart s l j) (hs : (s.job j).serialized = true) {r0 : RowNo}
    (hr0 : s.lanes[l].rowOrigin = .row r0) :
    laneOpening s number l =
      ({ LaneEntry.blank with
           snapshot := some j
           serial := some (serialAt (s.job j).serialMode (s.job j).step (s.laneRec l).origin (number - r0).toNat) },
        .row r0) := by
  simp only [laneOpening, h.slot]
  rw [if_pos h.condition, if_pos hs]
  simp only [hr0]

/-- R108: a PENDING row origin becomes the row being opened, and the serial is the serial origin. -/
theorem laneOpening_pending (h : TakesPart s l j) (hs : (s.job j).serialized = true)
    (hpending : s.lanes[l].rowOrigin = .pending) :
    laneOpening s number l =
      ({ LaneEntry.blank with snapshot := some j, serial := some ((s.laneRec l).origin % 100000000) },
        .row number) := by
  simp only [laneOpening, h.slot]
  rw [if_pos h.condition, if_pos hs]
  simp only [hpending, serialAt_zero]

/-- R27: the entry of a lane that takes part names its slot and differs from a blank one in no more than its serial. -/
theorem laneOpening_in (h : TakesPart s l j) :
    ∃ serial, (laneOpening s number l).1 = { LaneEntry.blank with snapshot := some j, serial := serial } := by
  cases hs : (s.job j).serialized with
  | false => exact ⟨none, congrArg Prod.fst (laneOpening_plain h hs)⟩
  | true =>
    cases ho : s.lanes[l].rowOrigin with
    | none => exact absurd ho (h.rowOrigin hs)
    | pending => exact ⟨_, congrArg Prod.fst (laneOpening_pending h hs ho)⟩
    | row r0 => exact ⟨_, congrArg Prod.fst (laneOpening_row h hs ho)⟩

/-- R27: only the slot and the serial of an entry can differ from a blank one's. -/
theorem laneOpening_entry (s : State) (number : RowNo) (l : Lane) :
    ∃ snapshot serial, (laneOpening s number l).1 =
      { LaneEntry.blank with snapshot := snapshot, serial := serial } := by
  by_cases h : ∃ j, TakesPart s l j
  · obtain ⟨j, hj⟩ := h
    exact ⟨some j, laneOpening_in hj⟩
  · exact ⟨none, none, congrArg Prod.fst (laneOpening_out (not_exists.mp h))⟩

theorem laneOpening_snapshot : (laneOpening s number l).1.snapshot = some j ↔ TakesPart s l j := by
  refine ⟨fun hj => ?_, fun h => ?_⟩
  · by_cases h : ∃ i, TakesPart s l i
    · obtain ⟨i, hi⟩ := h
      obtain ⟨serial, he⟩ := laneOpening_in (number := number) hi
      rw [he] at hj
      cases hj
      exact hi
    · rw [laneOpening_out (not_exists.mp h)] at hj
      cases hj
  · obtain ⟨serial, he⟩ := laneOpening_in (number := number) h
    rw [he]

/-- R27, R112: an entry that names no serialized job has no serial and leaves the row origin. -/
theorem laneOpening_unserialized (h : ∀ j, TakesPart s l j → (s.job j).serialized = false) :
    (laneOpening s number l).1.serial = none ∧ (laneOpening s number l).2 = s.lanes[l].rowOrigin := by
  by_cases hin : ∃ j, TakesPart s l j
  · obtain ⟨j, hj⟩ := hin
    rw [laneOpening_plain hj (h j hj)]
    exact ⟨rfl, rfl⟩
  · rw [laneOpening_out (not_exists.mp hin)]
    exact ⟨rfl, rfl⟩

end

/-- R108: the lane units after a row is opened. -/
theorem withRowOpened_lane (s : State) (how : Opening) (m : Pos) (l : Lane) :
    (s.withRowOpened how m).lanes[l] = { s.lanes[l] with rowOrigin := (laneOpening s s.ring.next l).2 } :=
  vtab_get _ l

/-- Settles O15, by whether the lane takes part in a job, and by its row origin. -/
theorem laneEntryAtOpeningFollowsLaneAndJob : Obligations.LaneEntryAtOpeningFollowsLaneAndJob := by
  intro s how m l hc
  rw [openRow_clean s how m hc, withRowOpened_lane]
  refine ⟨_, withRowOpened_rowAt s how m, ?_⟩
  simp only [vtab_get, laneOpening_snapshot]
  obtain ⟨snapshot, serial, hentry⟩ := laneOpening_entry s s.ring.next l
  refine ⟨by rw [hentry]; rfl, by rw [hentry]; rfl, by rw [hentry]; rfl, by rw [hentry]; rfl, fun j => takesPart_iff,
    fun j hj hs => ⟨fun r0 hr0 => ?row, fun hpending => ?pending⟩, fun h => laneOpening_unserialized h, trivial⟩
  case row => rw [laneOpening_row hj hs hr0]; exact ⟨rfl, rfl⟩
  case pending => rw [laneOpening_pending hj hs hpending]; exact ⟨rfl, rfl⟩

end Sys2Proof.Proofs
end

section
/-! SUPPORT. JOB WRITE with a serial mode code outside those of R192. `SerialMode.ofCode` answers NONE for such a code: its
last arm writes `none`, which is read there as the serial mode and not as the absent option. So the request is taken, where
R101 and R192 refuse it. -/

namespace Sys2Proof.Proofs

open Sys2Proof Sys2Proof.Machine Sys2Proof.Laws

theorem exec_jobWrite (p : JobPayload) (s : State) :
    exec (.jobWrite p) s = .next ((s.framed 29).request (flagForm p.sampleEnable) (jobWriteRule p)) := rfl

/-- R192: a code above 2 is answered with the serial mode NONE. -/
theorem serialModeOfCode_above {k : Nat} (h : 3 ≤ k) : SerialMode.ofCode k = some .none := by
  unfold SerialMode.ofCode
  split
  · rfl
  · omega
  · omega
  · rfl

section
variable {s : State} {p : JobPayload} {j : JobSlot}

/-- R101, R102: on a clean image a JOB WRITE to an EMPTY slot whose id no other live slot and no OPEN stack holds is taken. -/
theorem jobWriteNew_taken (hc : s.clean) (he : (s.job j).state = .empty) (hid : s.jobIdElsewhere j p.jobId = false)
    (hopen : s.someOpenStack j (fun r => r.jobId == p.jobId) = false) (mode : SerialMode) :
    ∃ t, jobWriteNew p mode j s = reply t (slotPayload t j) := by
  have hd : ((s.job j).state == SlotState.damaged) = false := by rw [he]; rfl
  simp only [jobWriteNew, readAll_clean _ s hc, readOpenStacks_clean hc, hid, hd, hopen, Bool.false_and,
    Bool.false_eq_true, if_false]
  exact ⟨_, rfl⟩

/-- R101: within its ranges a JOB WRITE to an EMPTY slot acts under the serial mode its code is read as. -/
theorem jobWriteRule_empty {mode : SerialMode} (hc : s.clean) (hj : p.slot.toNat = j.val)
    (hm : SerialMode.ofCode p.serialMode.toNat = some mode) (hr : JobPayload.inRange p = true)
    (he : (s.job j).state = .empty) : jobWriteRule p s = jobWriteNew p mode j s := by
  unfold jobWriteRule
  rw [indexArg_of hj, hm]
  dsimp only
  rw [if_pos hr, readRecord_clean _ s hc, he]

/-- A JOB WRITE to an EMPTY slot that carries a serial mode code above 2 is taken. -/
theorem jobWrite_unknownMode_taken (hs : s.sound) (hform : p.sampleEnable = 0 ∨ p.sampleEnable = 1)
    (hj : p.slot.toNat = j.val) (hmode : 3 ≤ p.serialMode.toNat) (hr : JobPayload.inRange p = true)
    (he : (s.job j).state = .empty) (hid : s.jobIdElsewhere j p.jobId = false)
    (hopen : s.someOpenStack j (fun r => r.jobId == p.jobId) = false) :
    ∃ (t : State) (payload : List Byte),
      exec (.jobWrite p) s = .next { t with port := .ready (responseFrame .ok payload) } := by
  have hclean : State.clean { s.framed 29 with port := .building } := hs.clean
  obtain ⟨t, ht⟩ := jobWriteNew_taken hclean (p := p) (j := j) he hid hopen .none
  refine ⟨t, slotPayload t j, ?_⟩
  rw [exec_jobWrite, (flagForm_iff _).mpr hform, request_replies (by exact hs.power)
    ((jobWriteRule_empty hclean hj (serialModeOfCode_above hmode) hr he).trans ht)]

end

/-- R190: a response of a request taken is none of a request refused with ERR_ARG. -/
theorem responseFrame_ok_ne_errArg (a b : List Byte) : responseFrame .ok a ≠ responseFrame .errArg b := by
  intro h
  have hstatus : byteOf Status.ok.code = byteOf Status.errArg.code :=
    (List.cons.inj (List.cons.inj h).2).1
  exact absurd hstatus (by decide)

/-! ### The image of log entry 8 -/

theorem reset_sound : State.reset.sound := ⟨rfl, rfl, rfl⟩

theorem reset_jobIdElsewhere (j : JobSlot) (id : BitVec 16) : State.reset.jobIdElsewhere j id = false := by
  rw [State.jobIdElsewhere, List.any_eq_false]
  intro k _
  simp [reset_job, JobRecord.zero]

theorem reset_someOpenStack (j : JobSlot) (test : StackRecord → Bool) : State.reset.someOpenStack j test = false := by
  rw [State.someOpenStack, List.any_eq_false]
  intro n _
  simp [reset_stack, StackRecord.zero]

/-- A JOB WRITE for slot 0 whose fields keep to R101 and R192, but for the serial mode code 3. -/
def unknownModeWrite : JobPayload :=
  { slot := 0, jobId := 1, name := List.replicate 16 0, target := 1, serialMode := 3, step := 1, gapLimit := 0
    sampleEnable := 0, sampleValue := 0, sampleMask := 0, firstOrdinal := 0 }

/-- Refutes O56: on the image of log entry 8 a JOB WRITE with the serial mode code 3 is answered OK, not ERR_ARG. -/
theorem not_jobWriteStartsOrChangesAndJobEndEnds : ¬ Obligations.JobWriteStartsOrChangesAndJobEndEnds := by
  rintro ⟨-, hrefused, -⟩
  obtain ⟨t, payload, htaken⟩ := jobWrite_unknownMode_taken (s := State.reset) (p := unknownModeWrite) (j := 0)
    reset_sound (.inl rfl) rfl (by decide) (by decide) (congrArg JobRecord.state (reset_job 0)) (reset_jobIdElsewhere 0 _)
    (reset_someOpenStack 0 _)
  have herrArg := hrefused State.reset unknownModeWrite rfl (.inr (.inr (.inl (by decide))))
  have hport := congrArg State.port (Host.Outcome.next.inj (htaken.symm.trans herrArg))
  exact responseFrame_ok_ne_errArg _ _ (ResponseSlot.ready.inj hport)

end Sys2Proof.Proofs
end

section
/-! SUPPORT. The shuttle: the winner of a grant and its transfer (R141 to R144), and the end of a transfer (R145 to R147). -/

namespace Sys2Proof.Proofs

open Sys2Proof Sys2Proof.Machine Sys2Proof.Laws

theorem exec_shuttleGrant (s : State) : exec .shuttleGrant s = .next s.grant := rfl
theorem exec_done (s : State) : exec .done s = .next s.takeDone := rfl
theorem exec_fault (s : State) : exec .fault s = .next s.takeFault := rfl
theorem exec_transferTimeout (s : State) : exec .transferTimeout s = .next s.takeTimeout := rfl

/-! ### The STRICT winner (R142) -/

/-- R142: one comparison of the search, which goes through the READY lanes in ascending number. -/
abbrev strictBetter (priority : Lane → Nat) (best : Option Lane) (l : Lane) : Option Lane :=
  match best with
  | none => some l
  | some b => if priority l < priority b then some l else some b

/-- The lane that goes before every other one, by priority and then by number, wins the search. -/
theorem foldl_strictBetter {priority : Lane → Nat} {l : Lane} (ls : List Lane) {b : Lane}
    (hsorted : (b :: ls).Pairwise (· < ·)) (hl : l ∈ b :: ls)
    (hfirst : ∀ k ∈ b :: ls, k ≠ l → priority l < priority k ∨ priority l = priority k ∧ l < k) :
    ls.foldl (strictBetter priority) (some b) = some l := by
  induction ls generalizing b with
  | nil => rw [List.mem_singleton.mp hl]; rfl
  | cons x ls ih =>
    obtain ⟨hb, hx, hls⟩ : (∀ y ∈ x :: ls, b < y) ∧ (∀ y ∈ ls, x < y) ∧ ls.Pairwise (· < ·) := by
      simpa only [List.pairwise_cons] using hsorted
    have hbx := hb x List.mem_cons_self
    have hkeep : (b :: ls).Pairwise (· < ·) :=
      List.pairwise_cons.mpr ⟨fun y hy => hb y (List.mem_cons_of_mem x hy), hls⟩
    have htake : (x :: ls).Pairwise (· < ·) := List.pairwise_cons.mpr ⟨hx, hls⟩
    have hfb := hfirst b List.mem_cons_self
    have hfx := hfirst x (List.mem_cons_of_mem b List.mem_cons_self)
    rw [List.foldl_cons]
    by_cases hp : priority x < priority b
    · have hne : l ≠ b := by
        rintro rfl
        rcases hfx (Fin.ne_of_lt hbx).symm with h | ⟨h, -⟩ <;> omega
      simp only [strictBetter, if_pos hp]
      exact ih htake ((List.mem_cons.mp hl).resolve_left hne) (fun k hk => hfirst k (List.mem_cons_of_mem b hk))
    · have hne : l ≠ x := by
        rintro rfl
        rcases hfb (Fin.ne_of_lt hbx) with h | ⟨-, h⟩
        · exact hp h
        · exact absurd h (Fin.lt_asymm hbx)
      simp only [strictBetter, if_neg hp]
      have hmem : l ∈ b :: ls :=
        List.mem_cons.mpr ((List.mem_cons.mp hl).imp_right fun h => (List.mem_cons.mp h).resolve_left hne)
      have hsub : b :: ls ⊆ b :: x :: ls := List.cons_subset_cons b (List.subset_cons_self x ls)
      exact ih hkeep hmem (fun k hk => hfirst k (hsub hk))

theorem mem_readyLanes {s : State} {l : Lane} : l ∈ s.readyLanes ↔ s.readyOf l ≠ none := by
  simp [State.readyLanes, Option.isSome_iff_ne_none]

/-- R142: the READY lane with the lowest priority value, then the lowest number, wins. -/
theorem strictWinner_first {s : State} {l : Lane} (hl : s.readyOf l ≠ none)
    (hfirst : ∀ k : Lane, s.readyOf k ≠ none → k ≠ l →
      (s.laneRec l).priority < (s.laneRec k).priority ∨ (s.laneRec l).priority = (s.laneRec k).priority ∧ l < k) :
    s.strictWinner = some l := by
  have hsorted : s.readyLanes.Pairwise (· < ·) := (List.pairwise_lt_finRange 12).filter _
  have hmem := mem_readyLanes.mpr hl
  have hlanes : ∀ k ∈ s.readyLanes, k ≠ l → _ := fun k hk => hfirst k (mem_readyLanes.mp hk)
  unfold State.strictWinner
  generalize s.readyLanes = ls at hsorted hmem hlanes
  cases ls with
  | nil => exact absurd hmem List.not_mem_nil
  | cons b ls => exact foldl_strictBetter (priority := fun k => (s.laneRec k).priority) ls hsorted hmem hlanes

/-! ### The WEIGHTED winner (R143) -/

/-- R143: a lane can win the WEIGHTED search when it holds a READY record and has a credit. -/
theorem weightedTest_iff (s : State) (l : Lane) :
    ((s.readyOf l).isSome && decide (0 < s.shuttle.credits[l])) = true ↔
      s.readyOf l ≠ none ∧ 0 < s.shuttle.credits[l] := by
  simp [Option.isSome_iff_ne_none]

/-- R143: the first lane of the search that holds a READY record and has a credit wins. -/
theorem weightedWinner_first {s : State} {l : Lane} {start d : Nat}
    (hstart : start = (match s.shuttle.lastWinner with | none => 0 | some w => w.val + 1)) (hd : d < 12)
    (hl : l = Fin.ofNat 12 (start + d)) (hready : s.readyOf l ≠ none) (hcredit : 0 < s.shuttle.credits[l])
    (hbefore : ∀ e, e < d → s.readyOf (Fin.ofNat 12 (start + e)) = none ∨
      s.shuttle.credits[(Fin.ofNat 12 (start + e) : Lane)] = 0) : s.weightedWinner = some l := by
  have horder : s.searchOrder = (List.range 12).map (fun i => Fin.ofNat 12 (start + i)) := by
    rw [hstart]
    rfl
  have hfind : (List.range 12).find? ((fun l => (s.readyOf l).isSome && decide (0 < s.shuttle.credits[l])) ∘
      fun i => Fin.ofNat 12 (start + i)) = some d := by
    rw [List.find?_range_eq_some]
    refine ⟨?_, List.mem_range.mpr hd, fun e he => ?_⟩
    · subst hl
      exact (weightedTest_iff s _).mpr ⟨hready, hcredit⟩
    · rw [Bool.not_eq_true', Bool.eq_false_iff]
      intro ht
      obtain ⟨hr, hc⟩ := (weightedTest_iff s _).mp ht
      rcases hbefore e he with h | h
      · exact hr h
      · exact Nat.ne_of_gt hc h
  rw [State.weightedWinner, horder, List.find?_map, hfind, hl]
  rfl

theorem weightedWinner_none {s : State} (h : ∀ l : Lane, s.readyOf l = none ∨ s.shuttle.credits[l] = 0) :
    s.weightedWinner = none := by
  unfold State.weightedWinner
  rw [List.find?_eq_none]
  intro l _ ht
  obtain ⟨hr, hc⟩ := (weightedTest_iff s l).mp ht
  rcases h l with h | h
  · exact hr h
  · omega

/-! ### The transfer of the winner's record (R128, R144) -/

/-- R144: a state in which the transfer of record `n` of lane `l` has started, before the lane's HELD record is pushed. -/
def transferStarted (s : State) (l : Lane) (n : StackNo) : State :=
  { s.setStack n { s.stack n with state := .transfer } with
      shuttle :=
        if s.work.arbiter = .weighted then
          { s.shuttle with
              state := .moving l n s.work.shuttleTimeout
              credits := vset s.shuttle.credits l (s.shuttle.credits[l] - 1)
              lastWinner := some l }
        else { s.shuttle with state := .moving l n s.work.shuttleTimeout }
      outputs := .go l :: s.outputs }

theorem startTransfer_eq (s : State) (l : Lane) (n : StackNo) :
    State.startTransfer readRecord l n s = ((transferStarted s l n).pushHeld l).unblockLanes := by
  have hstarted : transferStarted s l n =
      if s.work.arbiter = .weighted then
        { ({ s.setStack n { s.stack n with state := .transfer } with
              shuttle := { s.shuttle with state := .moving l n s.work.shuttleTimeout } } : State).emit (.go l) with
          shuttle := { s.shuttle with
            state := .moving l n s.work.shuttleTimeout
            credits := vset s.shuttle.credits l (s.shuttle.credits[l] - 1)
            lastWinner := some l } }
      else ({ s.setStack n { s.stack n with state := .transfer } with
              shuttle := { s.shuttle with state := .moving l n s.work.shuttleTimeout } } : State).emit (.go l) := by
    unfold transferStarted
    split <;> rfl
  rw [hstarted]
  rfl

section
variable {s : State} {l : Lane} {n : StackNo} (hready : s.readyOf l = some n)
include hready

theorem transferStarted_stack (m : StackNo) :
    (transferStarted s l n).stack m = if n = m then { s.stack n with state := .transfer } else s.stack m := by
  have hset : (transferStarted s l n).stack m = (s.setStack n { s.stack n with state := .transfer }).stack m := rfl
  have hlive := live_not_inDamagedSet (s := s) (n := n) (by rw [(laneStack_some hready).1]; simp)
  rw [hset, stack_setStack]
  simp only [hlive, and_true]

/-- R117, R144: the lane's HELD record is found as before, for its READY record was not HELD. -/
theorem transferStarted_heldOf : (transferStarted s l n).heldOf l = s.heldOf l := by
  have hnot : ((s.stack n).state == .held) = false := by
    rw [(laneStack_some hready).1]
    rfl
  unfold State.heldOf State.laneStack State.findStack
  congr 1
  funext m
  rw [transferStarted_stack hready]
  split
  · next h =>
    dsimp only
    rw [← h, hnot]
    rfl
  · rfl

/-- R144: the ready position is free when the lane's one READY record has left it. -/
theorem transferStarted_readyOf
    (hone : ∀ m, (s.stack m).state = .ready → (s.stack m).lane = l.val + 1 → m = n) :
    (transferStarted s l n).readyOf l = none := by
  rw [laneStack_none]
  rintro m ⟨hstate, hlane⟩
  rw [transferStarted_stack hready] at hstate hlane
  split at hstate
  · exact StackState.noConfusion hstate
  · next h =>
    rw [if_neg h] at hlane
    exact h (hone m hstate hlane).symm

/-- R128, R144: the HELD record takes the ready position that the grant has freed. -/
theorem transferStarted_pushes {m : StackNo} (hc : s.clean)
    (hone : ∀ m, (s.stack m).state = .ready → (s.stack m).lane = l.val + 1 → m = n) (hheld : s.heldOf l = some m) :
    (transferStarted s l n).pushHeld l =
      ((transferStarted s l n).setStack m { s.stack m with state := .ready }).emit (.push l) := by
  have hne : n ≠ m := by
    rintro rfl
    have hstate := (laneStack_some hheld).1
    rw [(laneStack_some hready).1] at hstate
    exact StackState.noConfusion hstate
  rw [pushHeld_pushes (by exact hc) ((transferStarted_heldOf hready).trans hheld)
    (transferStarted_readyOf hready hone), transferStarted_stack hready, if_neg hne]

end

/-! ### The grant (R141 to R144) -/

theorem grant_of_winner {s : State} {l : Lane} {n : StackNo} (hs : s.sound) (hg : s.canGrant = true)
    (hready : s.readyOf l = some n)
    (hwins : s.work.arbiter = .strict ∧ s.strictWinner = some l ∨
      s.work.arbiter = .weighted ∧ s.weightedWinner = some l) :
    s.grant = ((transferStarted s l n).pushHeld l).unblockLanes := by
  have hchosen : State.chooseLane readRecord s = (s, some l) := by
    rw [chooseLane_clean hs.clean hg]
    rcases hwins with ⟨ha, hw⟩ | ⟨ha, hw⟩
    · simp only [ha, hw]
    · simp only [ha, hw]
  rw [grant_clean hg hchosen hs.clean hg hready, startTransfer_eq]

/-- R141, R144: the grant depends on the choice of the lane alone. -/
theorem grant_of_choice {a b : State} (ha : a.canGrant = true) (hb : b.canGrant = true)
    (h : State.chooseLane readRecord a = State.chooseLane readRecord b) : a.grant = b.grant := by
  unfold State.grant State.grantWith
  rw [if_pos ha, if_pos hb, h]

/-- R143: with no winner the grant is the one made after the credits are reloaded. -/
theorem grant_reloads {s : State} (hs : s.sound) (hg : s.canGrant = true) (hm : s.work.arbiter = .weighted)
    (hnone : s.weightedWinner = none) : s.grant = s.reloadCredits.grant := by
  have hagain : s.reloadCredits.reloadCredits = s.reloadCredits := rfl
  have hm' : s.reloadCredits.work.arbiter = .weighted := hm
  refine grant_of_choice hg hg ?_
  rw [chooseLane_clean hs.clean hg, chooseLane_clean (s := s.reloadCredits) hs.clean hg, hm, hm', hnone, hagain]
  cases s.reloadCredits.weightedWinner <;> rfl

/-- Settles O45, by the conditions of R141 and the arbiter mode. -/
theorem shuttleGrantStartsTheWinnersTransfer : Obligations.ShuttleGrantStartsTheWinnersTransfer := by
  refine ⟨fun s h => ?stays, fun s l n hs hidle hroom hready hone hwins t ht => ?wins,
    fun s hs hidle hroom hm hsome hnone => ?reloads⟩
  case stays =>
    have hno : s.canGrant = false := by
      rw [Bool.eq_false_iff, ne_eq, canGrant_iff]
      rintro ⟨hp, hidle, ⟨l, hl⟩, hroom⟩
      rcases h with h | h | h | h
      · rw [hp] at h; cases h
      · exact h hidle
      · exact hl (h l)
      · omega
    rw [exec_shuttleGrant, grant_stays hno]
  case wins =>
    have hsome : s.readyOf l ≠ none := by rw [hready]; simp
    have hg : s.canGrant = true := (canGrant_iff s).mpr ⟨hs.power, hidle, ⟨l, hsome⟩, hroom⟩
    have hgrant : s.grant = ((transferStarted s l n).pushHeld l).unblockLanes := by
      refine grant_of_winner hs hg hready ?_
      rcases hwins with ⟨ha, hfirst⟩ | ⟨ha, hcredit, start, d, hstart, hd, hl, hbefore⟩
      · exact .inl ⟨ha, strictWinner_first hsome hfirst⟩
      · exact .inr ⟨ha, weightedWinner_first hstart hd hl hsome hcredit hbefore⟩
    obtain rfl : t = transferStarted s l n := ht
    refine ⟨fun hheld => ?_, fun m hheld => ?_⟩
    · rw [exec_shuttleGrant, hgrant, pushHeld_stays (.inl ((transferStarted_heldOf hready).trans hheld))]
    · rw [exec_shuttleGrant, hgrant, transferStarted_pushes hready hs.clean hone hheld]
      rfl
  case reloads =>
    have hg : s.canGrant = true := (canGrant_iff s).mpr ⟨hs.power, hidle, hsome, hroom⟩
    rw [exec_shuttleGrant, exec_shuttleGrant, grant_reloads hs hg hm (weightedWinner_none hnone)]
    rfl

/-! ### The end of a transfer (R145 to R147, R156) -/

section
variable {s : State} {l : Lane} {n : StackNo} {ms : Nat} (hm : s.shuttle.state = .moving l n ms)
include hm

theorem takeDone_moving : s.takeDone = s.endTransfer n := by rw [State.takeDone, hm]

theorem takeFault_moving :
    s.takeFault = State.failTransfer { s with shuttle := { s.shuttle with faults := satInc s.shuttle.faults } } n := by
  rw [State.takeFault, hm]

theorem takeTimeout_moving :
    s.takeTimeout =
      State.failTransfer { s with shuttle := { s.shuttle with timeouts := satInc s.shuttle.timeouts } } n := by
  rw [State.takeTimeout, hm]

end

section
variable {s : State} {n : StackNo}

/-- R156: under PFAIL the end of a transfer writes no record. -/
theorem endTransfer_power (h : s.pfail = true) : s.endTransfer n = s.setShuttle .idle := if_pos h

theorem failTransfer_power (h : s.pfail = true) : s.failTransfer n = s.setShuttle .faulted := if_pos h

theorem endTransfer_clean (hc : s.clean) (hp : s.pfail = false) :
    s.endTransfer n = ((s.appendDelivered n).setShuttle .idle).grant := by
  rw [State.endTransfer, if_neg (by simp [hp]), readRecord_clean _ s hc]

theorem failTransfer_clean (hc : s.clean) (hp : s.pfail = false) :
    s.failTransfer n = ((s.quarantineTransfer n).setShuttle .faulted).unblockLanes := by
  rw [State.failTransfer, if_neg (by simp [hp]), readRecord_clean _ s hc]

theorem appendDelivered_transfer (h : (s.stack n).state = .transfer) :
    s.appendDelivered n =
      { s.setStack n { s.stack n with state := .delivered, deliverySeq := some s.queue.nextSeq } with
          queue := { entries := s.queue.entries ++ [some n], nextSeq := s.queue.nextSeq + 1 } } := if_pos h

theorem appendDelivered_void (h : (s.stack n).state ≠ .transfer) :
    s.appendDelivered n = { s with queue := { s.queue with entries := s.queue.entries ++ [none] } } := if_neg h

theorem quarantineTransfer_transfer (h : (s.stack n).state = .transfer) :
    s.quarantineTransfer n = s.setStack n { s.stack n with state := .quarantined .transfer } := if_pos h

theorem quarantineTransfer_stays (h : (s.stack n).state ≠ .transfer) : s.quarantineTransfer n = s := if_neg h

end

/-- Settles O46, by the shuttle state, then by PFAIL and the state of the record in transfer. -/
theorem transferEndsByDoneFaultOrTimeout : Obligations.TransferEndsByDoneFaultOrTimeout := by
  refine fun s => ⟨fun l n ms hm a b ha hb => ?moving, fun h => ?faulted, fun h => ?idle, fun h => ?outside⟩
  case moving =>
    subst ha hb
    rw [exec_done, exec_fault, exec_transferTimeout, takeDone_moving hm, takeFault_moving hm, takeTimeout_moving hm]
    refine ⟨fun hp => ?power, fun hs ht => ?transfer, fun hs ht => ?other⟩
    case power =>
      rw [endTransfer_power hp, failTransfer_power (by exact hp), failTransfer_power (by exact hp)]
      exact ⟨rfl, rfl, rfl⟩
    case transfer =>
      rw [endTransfer_clean hs.clean hs.power, failTransfer_clean (by exact hs.clean) (by exact hs.power),
        failTransfer_clean (by exact hs.clean) (by exact hs.power), appendDelivered_transfer ht,
        quarantineTransfer_transfer (by exact ht), quarantineTransfer_transfer (by exact ht)]
      exact ⟨rfl, rfl, rfl⟩
    case other =>
      rw [endTransfer_clean hs.clean hs.power, failTransfer_clean (by exact hs.clean) (by exact hs.power),
        failTransfer_clean (by exact hs.clean) (by exact hs.power), appendDelivered_void ht,
        quarantineTransfer_stays (by exact ht), quarantineTransfer_stays (by exact ht)]
      exact ⟨rfl, rfl, rfl⟩
  case faulted => rw [exec_done, State.takeDone, h]
  case idle => rw [exec_done, State.takeDone, h]
  case outside =>
    rcases h with h | h
    · rw [exec_fault, exec_transferTimeout, State.takeFault, State.takeTimeout, h]
      exact ⟨rfl, rfl⟩
    · rw [exec_fault, exec_transferTimeout, State.takeFault, State.takeTimeout, h]
      exact ⟨rfl, rfl⟩

end Sys2Proof.Proofs
end

section
/-! SUPPORT. The level lines of the press and of the host: SLOW_REQ, STOP_REQ, the pending set, ATTN, the lane select lines
and the gate lines. -/

namespace Sys2Proof.Proofs

open Sys2Proof Sys2Proof.Machine Sys2Proof.Laws

/-! ### The conditions (R173, R174) -/

theorem anyLane_iff (s : State) (p : RunState → Bool) : s.anyLane p = true ↔ ∃ l : Lane, p s.lanes[l].run = true := by
  unfold State.anyLane
  rw [List.any_eq_true]
  constructor
  · rintro ⟨u, hu, hp⟩
    obtain ⟨k, hk, rfl⟩ := List.getElem_of_mem hu
    exact ⟨⟨k, by simpa using hk⟩, by simpa using hp⟩
  · rintro ⟨l, hp⟩
    exact ⟨s.lanes[l], by simp, hp⟩

theorem someJammed_iff (s : State) : s.someJammed = true ↔ ∃ l : Lane, s.lanes[l].run = .jammed := by
  simp only [State.someJammed, anyLane_iff, beq_iff_eq]

theorem someBlocked_iff (s : State) :
    s.someBlocked = true ↔ ∃ (l : Lane) (c : BlockedCause), s.lanes[l].run = .blocked c := by
  rw [State.someBlocked, anyLane_iff]
  refine exists_congr fun l => ?_
  cases s.lanes[l].run <;> simp

theorem slowReq_iff (s : State) : s.slowReq = true ↔ s.work.watermark ≤ s.queue.entries.length := decide_eq_true_iff

theorem stopReq_iff (s : State) :
    s.stopReq = true ↔
      s.someJammed = true ∨ s.shuttle.state = .faulted ∨ s.attention.qualityStop = true ∨ s.pfail = true ∨
        (s.someBlocked = true ∧ s.queue.entries.length + s.shuttle.state.inTransfer = s.work.capacity) := by
  simp [State.stopReq, State.stopReasons]

/-! ### The pending set and ATTN (R174, R176) -/

/-- R174, R192: the level causes take the bits 8 to 11 of a cause set. -/
theorem levelCauses_bit (s : State) {b : Nat} (hb : b < 16) :
    s.levelCauses.getLsbD b =
      (decide (8 ≤ b) && [s.someJammed, s.someBlocked, s.shuttle.state == .faulted, s.slowReq].getD (b - 8) false) := by
  rw [State.levelCauses, BitVec.getLsbD_ofNat, show (256 : Nat) = 2 ^ 8 from rfl, Nat.testBit_two_pow_mul, testBit_bitsOf]
  simp [hb]

theorem pendingSet_bit (s : State) (b : Nat) :
    s.pendingSet.getLsbD b = (s.attention.latched.getLsbD b || s.levelCauses.getLsbD b) := BitVec.getLsbD_or

/-- R174, R192: the latched causes stand in the low half of the set. -/
theorem latched_high {x : BitVec 16} (h : x &&& 0xFF00 = 0) {b : Nat} (h8 : 8 ≤ b) (h16 : b < 16) :
    x.getLsbD b = false := by
  have hmasks : ∀ c, c < 16 → 8 ≤ c → (0xFF00 : BitVec 16).getLsbD c = true := by decide
  have hmask := hmasks b h16 h8
  have hbit := congrArg (fun y : BitVec 16 => y.getLsbD b) h
  rw [BitVec.getLsbD_and, hmask, Bool.and_true] at hbit
  exact hbit.trans BitVec.getLsbD_zero

/-- R174: with the latched causes in their half, a bit of the upper half is its level cause. -/
theorem pendingSet_level {s : State} (h : s.attention.latched &&& 0xFF00 = 0) {b : Nat} (h8 : 8 ≤ b) (h16 : b < 16) :
    s.pendingSet.getLsbD b =
      [s.someJammed, s.someBlocked, s.shuttle.state == .faulted, s.slowReq].getD (b - 8) false := by
  rw [pendingSet_bit, latched_high h h8 h16, levelCauses_bit s h16, decide_eq_true h8, Bool.false_or, Bool.true_and]

/-- Two cause sets meet when some cause stands in both. -/
theorem and_ne_zero_iff (x y : BitVec 16) :
    (x &&& y != 0) = true ↔ ∃ b, b < 16 ∧ x.getLsbD b = true ∧ y.getLsbD b = true := by
  rw [bne_iff_ne]
  constructor
  · intro h
    refine Classical.byContradiction fun hno => h (BitVec.eq_of_getLsbD_eq fun b hb => ?_)
    have hbit : ¬(x.getLsbD b = true ∧ y.getLsbD b = true) := fun hxy => hno ⟨b, hb, hxy⟩
    simpa using hbit
  · rintro ⟨b, -, hx, hy⟩ h
    have hbit := congrArg (fun z : BitVec 16 => z.getLsbD b) h
    simp [hx, hy] at hbit

/-- Settles O48, line by line. -/
theorem requestLinesFollowTheirConditions : Obligations.RequestLinesFollowTheirConditions := by
  refine fun s => ⟨slowReq_iff s, ?stop, fun b hb => ?latched, fun h => ⟨?jam, ?blocked, ?fault, ?slow⟩,
    and_ne_zero_iff _ _, fun l n ms h => ?select, fun h => ?noTransfer, fun l => ?gates, rfl⟩
  case stop => rw [stopReq_iff, someJammed_iff, someBlocked_iff]
  case latched =>
    rw [pendingSet_bit, levelCauses_bit s (by omega), decide_eq_false (by omega), Bool.false_and, Bool.or_false]
  case jam =>
    rw [pendingSet_level h (by decide) (by decide), ← someJammed_iff]
    rfl
  case blocked =>
    rw [pendingSet_level h (by decide) (by decide), ← someBlocked_iff]
    rfl
  case fault =>
    rw [pendingSet_level h (by decide) (by decide)]
    exact beq_iff_eq
  case slow =>
    rw [pendingSet_level h (by decide) (by decide), ← slowReq_iff]
    rfl
  case select => rw [State.laneSelect, h]; rfl
  case noTransfer =>
    rcases h with h | h
    · rw [State.laneSelect, h]
    · rw [State.laneSelect, h]
  case gates => cases s.lanes[l].gate <;> simp [gateLines]

end Sys2Proof.Proofs
end

section
/-! SUPPORT. The parts of the state that the invariant of the delivery queue speaks of: which operations leave them as they
are, and what the grant, the end of a transfer and the leaving of the conveyor make of them. -/

namespace Sys2Proof.Proofs

open Sys2Proof Sys2Proof.Machine Sys2Proof.Laws

/-! ### The view of the queue's invariant (R149) -/

/-- The parts of the state that R149 speaks of. -/
structure DeliveryView where
  flips : List Flip
  damagedSet : List RecordRef
  geometryDamaged : Bool
  capacity : Nat
  workingCapacity : Nat
  entries : List (Option StackNo)
  inTransfer : Nat
  delivered : StackNo → Bool

/-- The view of a state. -/
def delivery (s : State) : DeliveryView where
  flips := s.memory.flips
  damagedSet := s.memory.damagedSet
  geometryDamaged := s.memory.geometry.damaged
  capacity := s.memory.geometry.settings.capacity
  workingCapacity := s.work.capacity
  entries := s.queue.entries
  inTransfer := s.shuttle.state.inTransfer
  delivered n := s.memory.stackRecs[n].state == .delivered

/-- The view with other records DELIVERED. -/
def DeliveryView.withDelivered (v : DeliveryView) (d : StackNo → Bool) : DeliveryView := { v with delivered := d }

/-- R149 as a property of the view. -/
structure DeliveryView.Mirrors (v : DeliveryView) : Prop where
  clean : v.flips = []
  damaged : v.damagedSet = []
  delivered : ∀ n, some n ∈ v.entries ↔ v.delivered n = true
  once : (v.entries.filterMap id).Nodup
  capacity : v.entries.length + v.inTransfer ≤ v.workingCapacity
  working : v.geometryDamaged = false → v.capacity = v.workingCapacity

theorem queueMirrors_iff (s : State) : s.queueMirrors ↔ (delivery s).Mirrors :=
  ⟨fun h => ⟨h.clean, h.damaged, fun n => (h.delivered n).trans beq_iff_eq.symm, h.once, h.capacity, h.working⟩,
    fun h => ⟨h.clean, h.damaged, fun n => (h.delivered n).trans beq_iff_eq, h.once, h.capacity, h.working⟩⟩

/-- The invariant depends on the view alone. -/
theorem mirrors_same {s t : State} (h : delivery t = delivery s) (hs : s.queueMirrors) : t.queueMirrors := by
  rw [queueMirrors_iff, h, ← queueMirrors_iff]
  exact hs

/-! ### Writes of one record -/

theorem delivery_emit (s : State) (o : Output) : delivery (s.emit o) = delivery s := rfl

theorem delivery_unblockLanes (s : State) : delivery s.unblockLanes = delivery s := rfl

theorem delivery_setStack {s : State} {n : StackNo} {r : StackRecord} (hd : s.memory.damagedSet = [])
    (h : r.state = .delivered ↔ (s.stack n).state = .delivered) : delivery (s.setStack n r) = delivery s := by
  have hdelivered : (delivery (s.setStack n r)).delivered = (delivery s).delivered := by
    funext m
    rw [stack_image s n hd] at h
    simp only [delivery, setStack_stackRecs, vset_get]
    split
    · next hm => rw [← hm, Bool.eq_iff_iff, beq_iff_eq, beq_iff_eq, h]
    · rfl
  exact congrArg (delivery s).withDelivered hdelivered

/-- A record that becomes FREE is no longer DELIVERED, and no other record changes. -/
theorem delivery_freeStack {s : State} (n : StackNo) (hc : s.memory.flips = []) :
    delivery (s.freeStack n) = (delivery s).withDelivered (fun m => some n != some m && (delivery s).delivered m) := by
  have hfreed (r : StackRecord) : r.freed.state = .free := by
    unfold StackRecord.freed
    split <;> rfl
  have hdelivered : (delivery (s.setStack n (s.stack n).freed)).delivered =
      fun m => some n != some m && (delivery s).delivered m := by
    funext m
    simp only [delivery, setStack_stackRecs, vset_get]
    split
    · next hm => simp [hfreed, hm]
    · next hm => simp [hm]
  rw [freeStack_clean n hc]
  exact congrArg (delivery s).withDelivered hdelivered

section
variable {s : State} (hs : s.queueMirrors)
include hs

theorem setStack_mirrors {n : StackNo} {r : StackRecord} (h : r.state = .delivered ↔ (s.stack n).state = .delivered) :
    (s.setStack n r).queueMirrors := mirrors_same (delivery_setStack hs.damaged h) hs

/-- On a clean image a read changes nothing. -/
theorem read_mirrors (ref : RecordRef) : (readRecord ref s).queueMirrors := by
  rw [readRecord_clean ref s hs.clean]
  exact hs

theorem readAll_mirrors (refs : List RecordRef) : (readAll readRecord refs s).queueMirrors := by
  rw [readAll_clean refs s hs.clean]
  exact hs

/-- The shuttle unit changed, where a stack newly in transfer finds room. -/
theorem shuttle_mirrors {x : ShuttleUnit} (h : s.queue.entries.length + x.state.inTransfer ≤ s.work.capacity) :
    { s with shuttle := x }.queueMirrors := ⟨hs.clean, hs.damaged, hs.delivered, hs.once, h, hs.working⟩

/-- A shuttle without a stack in transfer leaves room. -/
theorem shuttle_empty_mirrors {x : ShuttleUnit} (h : x.state.inTransfer = 0) : { s with shuttle := x }.queueMirrors := by
  have hcap := hs.capacity
  exact shuttle_mirrors hs (by omega)

end

/-! ### Completion, the push and the grant (R127, R128, R141 to R144) -/

theorem complete_not_delivered {r : StackRecord} (h : r.complete = true) : r.state ≠ .delivered := by
  intro hd
  simp [StackRecord.complete, hd] at h

theorem delivery_moveComplete {s : State} {n : StackNo} (hd : s.memory.damagedSet = [])
    (h : (s.stack n).state ≠ .delivered) : delivery (s.moveComplete n) = delivery s := by
  unfold State.moveComplete
  dsimp only
  split
  · rw [delivery_unblockLanes]
    refine delivery_setStack hd (iff_of_false ?_ h)
    unfold StackRecord.freed
    split <;> simp
  · split
    · exact delivery_setStack hd (iff_of_false (by simp) h)
    · rw [delivery_emit]
      exact delivery_setStack hd (iff_of_false (by simp) h)

theorem delivery_pushHeld {s : State} (l : Lane) (hc : s.memory.flips = []) (hd : s.memory.damagedSet = []) :
    delivery (s.pushHeld l) = delivery s := by
  by_cases h : s.heldOf l = none ∨ s.readyOf l ≠ none
  · rw [pushHeld_stays h]
  · obtain ⟨hheld, hready⟩ := not_or.mp h
    have hready := Classical.not_not.mp hready
    obtain ⟨m, hm⟩ := Option.ne_none_iff_exists'.mp hheld
    have hstate := (laneStack_some hm).1
    rw [pushHeld_pushes hc hm hready, delivery_emit]
    exact delivery_setStack hd (iff_of_false (by simp) (by simp [hstate]))

section
variable {s : State} (hs : s.queueMirrors)
include hs

theorem pushHeld_mirrors (l : Lane) : (s.pushHeld l).queueMirrors :=
  mirrors_same (delivery_pushHeld l hs.clean hs.damaged) hs

/-- R144: the stack in transfer takes the place that the grant's condition leaves in the queue. -/
theorem transferStarted_mirrors {n : StackNo} (l : Lane) (hn : (s.stack n).state = .ready)
    (hroom : s.queue.entries.length < s.work.capacity) : (transferStarted s l n).queueMirrors := by
  have hstack : (s.setStack n { s.stack n with state := .transfer }).queueMirrors :=
    setStack_mirrors hs (iff_of_false (by simp) (by simp [hn]))
  have hmoving : (transferStarted s l n).shuttle.state.inTransfer = 1 := by
    unfold transferStarted
    dsimp only
    split <;> rfl
  have hshuttle := shuttle_mirrors hstack (x := (transferStarted s l n).shuttle) (by rw [hmoving]; exact hroom)
  exact mirrors_same (by rfl) hshuttle

omit hs in
/-- R142, R143: the choice of the lane can reload the credits, and changes nothing else of a clean image. -/
theorem chooseLane_state (hc : s.clean) (hg : s.canGrant = true) :
    (State.chooseLane readRecord s).1 = s ∨ (State.chooseLane readRecord s).1 = s.reloadCredits := by
  rw [chooseLane_clean hc hg]
  cases s.work.arbiter with
  | strict => exact .inl rfl
  | weighted =>
    cases s.weightedWinner with
    | none => exact .inr rfl
    | some l => exact .inl rfl

/-- R141 to R144: a grant is made only where the queue has room. -/
theorem grant_mirrors : s.grant.queueMirrors := by
  by_cases hg : s.canGrant = true
  · obtain ⟨-, -, -, hroom⟩ := (canGrant_iff s).mp hg
    have hc : (State.chooseLane readRecord s).1.queueMirrors ∧
        (State.chooseLane readRecord s).1.queue.entries.length < (State.chooseLane readRecord s).1.work.capacity := by
      rcases chooseLane_state hs.clean hg with h | h
      · rw [h]; exact ⟨hs, hroom⟩
      · rw [h]; exact ⟨mirrors_same (by rfl) hs, hroom⟩
    unfold State.grant State.grantWith
    rw [if_pos hg]
    generalize State.chooseLane readRecord s = c at hc
    obtain ⟨hc, hroom⟩ := hc
    dsimp only
    split
    · exact hc
    · split
      · exact hc
      · rw [readRecord_clean _ _ hc.clean]
        split
        · next hready =>
          have hstarted := transferStarted_mirrors hc ‹Lane› hready.2.1 hroom
          rw [startTransfer_eq]
          exact mirrors_same (delivery_unblockLanes _) (pushHeld_mirrors hstarted _)
        · exact hc
  · rw [grant_stays (by simpa using hg)]
    exact hs

theorem completeTest_mirrors (n : StackNo) : (s.completeTest n).queueMirrors := by
  by_cases h : s.pfail = false ∧ (s.stack n).complete = true
  · have hm := mirrors_same (delivery_moveComplete hs.damaged (complete_not_delivered h.2)) hs
    rw [completeTest_moves h.1 h.2]
    split
    · exact grant_mirrors hm
    · exact hm
  · rw [completeTest_stays (by grind)]
    exact hs

theorem seal_mirrors {n : StackNo} (hn : (s.stack n).state ≠ .delivered) (reason : SealReason) :
    (s.seal n reason).queueMirrors := by
  rw [seal_eq]
  exact completeTest_mirrors (setStack_mirrors hs (iff_of_false (by simp) hn)) n

theorem sealLane_mirrors (l : Lane) (reason : SealReason) : (s.sealLane l reason).1.queueMirrors := by
  by_cases hp : s.pfail = true
  · have h : s.sealLane l reason = (s, none) := if_pos hp
    rw [h]
    exact hs
  · cases ho : s.openOf l with
    | none => rw [sealLane_none ho]; exact hs
    | some n =>
      rw [sealLane_open hs.clean (by simpa using hp) ho]
      exact seal_mirrors hs (by rw [(laneStack_some ho).1]; simp) reason

end

/-! ### The end of a transfer (R145, R146) -/

/-- The DELIVERED records after one more is written. -/
theorem delivered_vset {recs : Vector StackRecord 64} {n m : StackNo} {r : StackRecord} (hr : r.state = .delivered) :
    (vset recs n r)[m].state = .delivered ↔ m = n ∨ recs[m].state = .delivered := by
  rw [vset_get]
  split
  · next h => simp [h, hr]
  · next h => simp [Ne.symm h]

section
variable {s : State} (hs : s.queueMirrors)
include hs

/-- R145: the entry at the tail takes the place that the stack in transfer held. -/
theorem appendDelivered_mirrors (n : StackNo) (hm : s.shuttle.state.inTransfer = 1) :
    ((s.appendDelivered n).setShuttle .idle).queueMirrors := by
  have hcap := hs.capacity
  by_cases ht : (s.stack n).state = .transfer
  · have hnew : some n ∉ s.queue.entries := by
      rw [hs.delivered n, ← stack_image s n hs.damaged, ht]
      simp
    rw [appendDelivered_transfer ht]
    refine ⟨hs.clean, hs.damaged, fun m => ?_, ?_, ?_, hs.working⟩
    · refine Iff.trans ?_ (delivered_vset rfl).symm
      simp [State.setShuttle, hs.delivered m, or_comm]
    · have hfresh : n ∉ s.queue.entries.filterMap id := by simpa using hnew
      simpa [State.setShuttle, List.nodup_append] using ⟨hs.once, fun a ha he => hfresh (by simpa [← he] using ha)⟩
    · simp [State.setShuttle, ShuttleState.inTransfer]
      omega
  · rw [appendDelivered_void ht]
    refine ⟨hs.clean, hs.damaged, fun m => ?_, ?_, ?_, hs.working⟩
    · exact Iff.trans (by simp [State.setShuttle]) (hs.delivered m)
    · simpa [State.setShuttle] using hs.once
    · simp [State.setShuttle, ShuttleState.inTransfer]
      omega

theorem takeDone_mirrors : s.takeDone.queueMirrors := by
  unfold State.takeDone
  split
  · next l n ms h =>
    by_cases hp : s.pfail = true
    · rw [endTransfer_power hp]
      exact shuttle_empty_mirrors hs rfl
    · rw [endTransfer_clean hs.clean (by simpa using hp)]
      exact grant_mirrors (appendDelivered_mirrors hs n (by rw [h]; rfl))
  · exact mirrors_same (by rfl) hs
  · exact mirrors_same (by rfl) hs

theorem failTransfer_mirrors (n : StackNo) : (s.failTransfer n).queueMirrors := by
  by_cases hp : s.pfail = true
  · rw [failTransfer_power hp]
    exact shuttle_empty_mirrors hs rfl
  · rw [failTransfer_clean hs.clean (by simpa using hp)]
    refine mirrors_same (delivery_unblockLanes _) (shuttle_empty_mirrors ?_ rfl)
    by_cases ht : (s.stack n).state = .transfer
    · rw [quarantineTransfer_transfer ht]
      exact setStack_mirrors hs (iff_of_false (by simp) (by simp [ht]))
    · rw [quarantineTransfer_stays ht]
      exact hs

theorem takeFault_mirrors : s.takeFault.queueMirrors := by
  unfold State.takeFault
  split
  · exact failTransfer_mirrors (mirrors_same (by rfl) hs) _
  · exact mirrors_same (by rfl) hs

theorem takeTimeout_mirrors : s.takeTimeout.queueMirrors := by
  unfold State.takeTimeout
  split
  · exact failTransfer_mirrors (mirrors_same (by rfl) hs) _
  · exact hs

/-! ### Leaving the conveyor (R152 to R154) -/

/-- R152, R153: the DELIVERED record at the head leaves the queue and becomes FREE. -/
theorem freeHead_mirrors {n : StackNo} {rest : List (Option StackNo)} (hq : s.queue.entries = some n :: rest) :
    (s.dropHead.freeStack n).queueMirrors := by
  obtain ⟨hclean, hdamaged, hdelivered, honce, hcapacity, hworking⟩ := hs
  have htail : (delivery s.dropHead).entries = rest := congrArg List.tail hq
  rw [hq] at hdelivered honce hcapacity
  obtain ⟨hfresh, honce⟩ := List.nodup_cons.mp honce
  rw [queueMirrors_iff, delivery_freeStack n (by exact hclean)]
  refine ⟨hclean, hdamaged, fun m => ?_, ?_, ?_, hworking⟩ <;>
    simp only [DeliveryView.withDelivered, htail]
  · have hm := hdelivered m
    have hne : some m ∈ rest → m ≠ n := by
      rintro hmem rfl
      exact hfresh (List.mem_filterMap.mpr ⟨some m, hmem, rfl⟩)
    simp only [delivery, Bool.and_eq_true, bne_iff_ne, beq_iff_eq]
    refine Iff.trans ?_ (and_congr_right fun _ => hm)
    rw [List.mem_cons]
    grind
  · exact honce
  · exact Nat.le_trans (Nat.add_le_add_right (Nat.le_succ _) _) hcapacity

theorem takeTaken_mirrors : s.takeTaken.queueMirrors := by
  unfold State.takeTaken
  split
  · exact mirrors_same (by rfl) hs
  · next rest hq =>
    refine grant_mirrors ?_
    obtain ⟨hclean, hdamaged, hdelivered, honce, hcapacity, hworking⟩ := hs
    unfold State.dropHead
    rw [hq] at hdelivered honce hcapacity ⊢
    refine ⟨hclean, hdamaged, fun m => Iff.trans ?_ (hdelivered m), honce, ?_, hworking⟩
    · simp
    · exact Nat.le_trans (Nat.add_le_add_right (Nat.le_succ _) _) hcapacity
  · next n rest hq =>
    split
    · exact mirrors_same (by rfl) hs
    · have hstate : (s.dropHead.stack n).state = .delivered := by
        have hrec := (hs.delivered n).mp (by rw [hq]; exact List.mem_cons_self)
        exact (congrArg StackRecord.state (stack_image s n hs.damaged)).trans hrec
      rw [readRecord_clean _ _ hs.clean, State.freeDelivered, if_pos hstate]
      exact grant_mirrors (freeHead_mirrors hs hq)

theorem stackRetire_mirrors (stack : Byte) : (stackRetireRule stack s).1.queueMirrors := by
  unfold stackRetireRule
  split
  · exact hs
  · next n _ =>
    split
    · unfold retireDelivered
      dsimp only
      rw [readRecord_clean _ _ hs.clean]
      split
      · next hhead =>
        obtain ⟨rest, hq⟩ := List.head?_eq_some_iff.mp hhead
        exact grant_mirrors (freeHead_mirrors hs hq)
      · exact hs
    · next hstate =>
      unfold retireQuarantined
      dsimp only
      split
      · exact hs
      · rw [readRecord_clean _ _ hs.clean]
        refine grant_mirrors ?_
        rw [freeStack_clean n hs.clean, freed_quarantined hstate]
        exact mirrors_same (delivery_unblockLanes _)
          (setStack_mirrors hs (iff_of_false (by simp) (by simp [hstate])))
    · exact hs

end

/-- R154: the record of an entry retired is no longer DELIVERED. -/
theorem delivery_retireEntry (e : Option StackNo) {acc : State × Nat × Nat} (hc : acc.1.memory.flips = [])
    (hd : acc.1.memory.damagedSet = []) :
    delivery (retireEntry acc e).1 =
      (delivery acc.1).withDelivered (fun m => e != some m && (delivery acc.1).delivered m) := by
  unfold retireEntry
  cases e with
  | none => rfl
  | some n =>
    dsimp only
    rw [readRecord_clean _ _ hc]
    by_cases hn : (acc.1.stack n).state = .delivered
    · rw [if_pos hn]
      exact delivery_freeStack n hc
    · have hkept : (delivery acc.1).delivered = fun m => some n != some m && (delivery acc.1).delivered m := by
        funext m
        rw [stack_image _ n hd] at hn
        by_cases hm : n = m
        · subst hm
          simpa [delivery] using hn
        · simp [hm]
      rw [if_neg hn]
      exact congrArg (delivery acc.1).withDelivered hkept

/-- R154: the records of all the entries retired are no longer DELIVERED. -/
theorem delivery_retireEntries (es : List (Option StackNo)) {acc : State × Nat × Nat} (hc : acc.1.memory.flips = [])
    (hd : acc.1.memory.damagedSet = []) :
    delivery (es.foldl retireEntry acc).1 =
      (delivery acc.1).withDelivered (fun m => !es.contains (some m) && (delivery acc.1).delivered m) := by
  induction es generalizing acc with
  | nil => rfl
  | cons e es ih =>
    have hentry := delivery_retireEntry e hc hd
    have hclean := congrArg DeliveryView.flips hentry
    have hdamaged := congrArg DeliveryView.damagedSet hentry
    rw [List.foldl_cons, ih (hclean.trans hc) (hdamaged.trans hd), hentry]
    refine congrArg (delivery acc.1).withDelivered (funext fun m => ?_)
    simp only [DeliveryView.withDelivered, List.contains_cons]
    grind

theorem stackRetireAll_mirrors {s : State} (hs : s.queueMirrors) : (stackRetireAllRule s).1.queueMirrors := by
  have hview := delivery_retireEntries s.queue.entries (acc := (s, 0, 0)) hs.clean hs.damaged
  unfold stackRetireAllRule reply
  dsimp only
  generalize s.queue.entries.foldl retireEntry (s, 0, 0) = r at hview ⊢
  refine grant_mirrors ((queueMirrors_iff _).mpr ?_)
  have hempty : delivery { r.1 with queue := { r.1.queue with entries := [] } } =
      { delivery r.1 with entries := [] } := rfl
  rw [hempty, hview]
  refine ⟨hs.clean, hs.damaged, fun n => iff_of_false (by simp) ?_, List.nodup_nil, ?_, hs.working⟩
  · have hn := hs.delivered n
    simp only [DeliveryView.withDelivered, delivery, Bool.and_eq_true, Bool.not_eq_true', beq_iff_eq,
      List.contains_iff_mem, ← Bool.not_eq_true]
    exact fun h => h.1 (hn.mpr h.2)
  · have hcap := hs.capacity
    change 0 + s.shuttle.state.inTransfer ≤ s.work.capacity
    omega

end Sys2Proof.Proofs
end

section
/-! SUPPORT. The web's events keep the invariant of the delivery queue: die register, rows, the gate decision, landings,
marks and verdicts. They write stack records that are not DELIVERED, or fields other than the state. -/

namespace Sys2Proof.Proofs

open Sys2Proof Sys2Proof.Machine Sys2Proof.Laws

/-- A stack record as it is found after it was written. -/
theorem stack_written {s : State} {n : StackNo} {r : StackRecord} (hd : s.memory.damagedSet = []) :
    (s.setStack n r).stack n = r := stack_setStack_same s n r (by simp [State.inDamagedSet, hd])

/-! ### Updates outside the view -/

theorem delivery_queueTrim (s : State) (m : TrimMessage) : delivery (s.queueTrim m) = delivery s := by
  unfold State.queueTrim
  split
  · rfl
  · split <;> rfl

theorem delivery_messageSent (s : State) : delivery s.messageSent = delivery s := by
  unfold State.messageSent
  rw [putTrim_frame]
  split
  · rfl
  · split <;> rfl

theorem delivery_associate (s : State) (i : RingSlot) (r : RowRecord) (p : Pos) :
    delivery (s.associate i r p) = delivery s := by
  unfold State.associate
  dsimp only
  rw [delivery_queueTrim]
  split <;> rfl

theorem delivery_missCut (s : State) (i : RingSlot) (r : RowRecord) : delivery (s.missCut i r) = delivery s :=
  delivery_queueTrim _ _

theorem delivery_takeDieIndex (s : State) : delivery s.takeDieIndex = delivery s := by
  unfold State.takeDieIndex
  split
  · rfl
  · split
    · rfl
    · split
      · rfl
      · exact delivery_associate _ _ _ _

theorem delivery_takeDieWindowEnd (s : State) : delivery s.takeDieWindowEnd = delivery s := by
  unfold State.takeDieWindowEnd
  split
  · rfl
  · split
    · rfl
    · exact delivery_missCut _ _ _

theorem delivery_riseTest (s : State) : delivery s.riseTest = delivery s := by
  unfold State.riseTest
  split <;> rfl

theorem delivery_fall (s : State) (always : Bool) : delivery (s.fall always) = delivery s := by
  unfold State.fall
  dsimp only
  split <;> split <;> rfl

theorem delivery_lossTest (s : State) : delivery s.lossTest = delivery s := by
  unfold State.lossTest
  split
  · exact delivery_fall _ _
  · rfl

theorem delivery_openRow {s : State} (how : Opening) (m : Pos) (hc : s.memory.flips = []) :
    delivery (s.openRow how m) = delivery s := by
  rw [openRow_clean s how m hc]
  rfl

theorem delivery_setEntry (s : State) (i : RingSlot) (l : Lane) (e : LaneEntry) :
    delivery (s.setEntry i l e) = delivery s := by
  unfold State.setEntry
  split <;> rfl

theorem delivery_jamTest (s : State) (l : Lane) : delivery (s.jamTest l) = delivery s := by
  rw [jamTest_eq]
  rfl

theorem delivery_thresholdReached (s : State) (c : CounterNo) : delivery (s.thresholdReached c) = delivery s := by
  unfold State.thresholdReached
  dsimp only
  split
  · split <;> rfl
  · rfl

theorem delivery_windowPublish (s : State) (c : CounterNo) : delivery (s.windowPublish c) = delivery s := by
  unfold State.windowPublish
  dsimp only
  split
  · exact delivery_thresholdReached _ _
  · rfl

theorem delivery_evaluateCounter (r : RowRecord) (s : State) (c : CounterNo) :
    delivery (State.evaluateCounter r s c) = delivery s := by
  unfold State.evaluateCounter
  dsimp only
  split
  · rfl
  · split
    · exact delivery_windowPublish _ _
    · split
      · exact delivery_thresholdReached _ _
      · rfl

theorem delivery_slotGone (s : State) (j : JobSlot) : delivery (s.slotGone j) = delivery s := by
  generalize hl : (s.slotGone j).lanes = lanes
  rw [slotGone_lanes, hl]
  rfl

section
variable {s : State} (hs : s.queueMirrors)
include hs

/-! ### Rows (R32 to R34, R106, R163) -/

theorem saveTrim_mirrors : (State.saveTrimWith readRecord s).queueMirrors := by
  unfold State.saveTrimWith
  dsimp only
  split
  · exact hs
  · split
    · exact read_mirrors hs _
    · exact mirrors_same (by rfl) (read_mirrors hs .geometry)

theorem drainTest_mirrors : s.drainTest.queueMirrors := by
  unfold State.drainTest State.drainWith
  split
  · exact mirrors_same (by rfl) (saveTrim_mirrors (mirrors_same (by rfl) hs))
  · exact hs

theorem enterDraining_mirrors : s.enterDraining.queueMirrors := drainTest_mirrors (mirrors_same (by rfl) hs)

theorem emptySlot_mirrors (j : JobSlot) : (s.emptySlot j).queueMirrors := by
  unfold State.emptySlot
  dsimp only
  split
  · split
    · exact mirrors_same (delivery_slotGone _ _) (mirrors_same (by rfl) (read_mirrors hs _))
    · exact read_mirrors hs _
  · exact hs

theorem reportRetired_mirrors (r : RowRecord) : (s.reportRetired r).queueMirrors := by
  unfold State.reportRetired
  refine foldl_keeps (P := State.queueMirrors) _ (fun t j ht => ?_) _ hs
  split
  · exact emptySlot_mirrors ht j
  · exact ht

omit hs in
theorem retireFuel_mirrors (k : Nat) {s : State} (hs : s.queueMirrors) : (retireFuel k s).queueMirrors := by
  induction k generalizing s with
  | zero => exact hs
  | succ k ih =>
    unfold retireFuel
    dsimp only
    split
    · exact hs
    · next r _ =>
      have hrow : ({ s.setRow (ringSlot s.oldestNumber) { r with phase := .retired } with
          ring := { (s.setRow (ringSlot s.oldestNumber) { r with phase := .retired }).ring with
            openCount := s.ring.openCount - 1 } }).queueMirrors := mirrors_same (by rfl) hs
      split
      · split
        · exact drainTest_mirrors (reportRetired_mirrors hrow r)
        · exact ih (reportRetired_mirrors hrow r)
      · exact hs

theorem retireRows_mirrors : s.retireRows.queueMirrors := retireFuel_mirrors _ hs

/-! ### The gate decision (R78 to R86) -/

theorem wasteLabel_mirrors (i : RingSlot) (row : RowNo) (l : Lane) (e : LaneEntry) (w : WasteReason) :
    (s.wasteLabel i row l e w).queueMirrors := mirrors_same (delivery_setEntry _ _ _ _) (mirrors_same (by rfl) hs)

theorem sampleLabel_mirrors (i : RingSlot) (row : RowNo) (l : Lane) (e : LaneEntry) :
    (s.sampleLabel i row l e).queueMirrors := mirrors_same (delivery_setEntry _ _ _ _) (mirrors_same (by rfl) hs)

theorem blockLabel_mirrors (i : RingSlot) (row : RowNo) (l : Lane) (e : LaneEntry) (c : BlockedCause) :
    (s.blockLabel i row l e c).queueMirrors := wasteLabel_mirrors (mirrors_same (by rfl) hs) _ _ _ _ _

theorem sealEndedJob_mirrors (l : Lane) : (s.sealEndedJob l).queueMirrors := by
  unfold State.sealEndedJob
  split
  · exact hs
  · split
    · exact hs
    · dsimp only
      split
      · exact read_mirrors hs _
      · next hopen =>
        split
        · exact seal_mirrors (read_mirrors hs _) (by rw [(laneStack_some hopen).1]; simp) _
        · exact read_mirrors hs _

/-- R85: a commit keeps the state of its record, and a full record is sealed. -/
theorem commitLabel_mirrors (i : RingSlot) (l : Lane) (e : LaneEntry) (job : JobRecord) {n : StackNo}
    (hn : (s.stack n).state ≠ .delivered) : (s.commitLabel i l e job n).queueMirrors := by
  have hentry := mirrors_same (delivery_setEntry s i l { e with disposition := .stack n, landing := .awaiting }) hs
  have hstack : (s.setEntry i l { e with disposition := .stack n, landing := .awaiting }).stack n = s.stack n := by
    unfold State.setEntry
    split <;> rfl
  have hkeeps : (committedRecord job e.serial (s.stack n)).state = (s.stack n).state := rfl
  have hrec := setStack_mirrors hentry (by rw [hkeeps, hstack])
  have hwritten := stack_written (n := n) (r := committedRecord job e.serial (s.stack n)) hentry.damaged
  unfold State.commitLabel
  dsimp only
  split
  · refine seal_mirrors (mirrors_same ?_ hrec) ?_ _
    · rfl
    · exact fun hd => hn ((congrArg StackRecord.state hwritten).symm.trans hd)
  · exact mirrors_same (by rfl) hrec

theorem openAndCommit_mirrors (i : RingSlot) (l : Lane) (e : LaneEntry) (j : JobSlot) {n : StackNo}
    (hn : (s.stack n).state ≠ .delivered) : (s.openAndCommit i l e j n).queueMirrors := by
  have hstate : (openedRecord (s.job j) j l e.serial).state ≠ .delivered := StackState.noConfusion
  have hopened := setStack_mirrors hs (iff_of_false hstate hn)
  have hwritten := stack_written (n := n) (r := openedRecord (s.job j) j l e.serial) hs.damaged
  unfold State.openAndCommit
  dsimp only
  rw [clearFlips_clean hopened.clean]
  exact commitLabel_mirrors (mirrors_same (by rfl) hopened) _ _ _ _ (fun hd => hstate (hwritten ▸ hd))

theorem commitToNew_mirrors (i : RingSlot) (row : RowNo) (l : Lane) (e : LaneEntry) (j : JobSlot) :
    (s.commitToNew i row l e j).queueMirrors := by
  unfold State.commitToNew
  split
  · exact blockLabel_mirrors hs _ _ _ _ _
  · split
    · exact blockLabel_mirrors hs _ _ _ _ _
    · next n hfree =>
      have hstate : (s.stack n).state = .free := by simpa using List.find?_some hfree
      exact openAndCommit_mirrors hs _ _ _ _ (by rw [hstate]; simp)

theorem commitStage_mirrors (i : RingSlot) (row : RowNo) (l : Lane) (e : LaneEntry) (j : JobSlot) :
    (s.commitStage i row l e j).queueMirrors := by
  unfold State.commitStage
  split
  · exact commitToNew_mirrors hs _ _ _ _ _
  · next n hopen =>
    have hn : (s.stack n).state ≠ .delivered := by rw [(laneStack_some hopen).1]; simp
    split
    · exact commitLabel_mirrors hs _ _ _ _ hn
    · exact commitToNew_mirrors (seal_mirrors hs hn _) _ _ _ _ _

theorem decideLane_mirrors (i : RingSlot) (l : Lane) : (State.decideLane i s l).queueMirrors := by
  cases hrow : s.rowAt i with
  | none => rw [State.decideLane, hrow]; exact hs
  | some r =>
    rw [decideLane_eq hrow (readSnapshot_clean hs.clean _), readForDecision_clean l hs.clean]
    split
    · exact wasteLabel_mirrors (sealEndedJob_mirrors hs l) _ _ _ _ _
    · split
      · exact wasteLabel_mirrors hs _ _ _ _ _
      · split
        · exact hs
        · split
          · exact wasteLabel_mirrors hs _ _ _ _ _
          · split
            · exact sampleLabel_mirrors hs _ _ _ _
            · exact commitStage_mirrors hs _ _ _ _ _

theorem closeDecision_mirrors (i : RingSlot) : (s.closeDecision i).queueMirrors := by
  unfold State.closeDecision
  dsimp only
  split
  · exact hs
  · refine retireRows_mirrors (foldl_keeps (P := State.queueMirrors) _
      (fun t c ht => mirrors_same (delivery_evaluateCounter _ t c) ht) _ ?_)
    unfold State.setGates
    split <;> exact mirrors_same (by rfl) hs

theorem decideRow_mirrors (i : RingSlot) : (s.decideRow i).queueMirrors := by
  unfold State.decideRow
  dsimp only
  split
  · exact hs
  · refine closeDecision_mirrors (foldl_keeps (P := State.queueMirrors) _
      (fun t l ht => decideLane_mirrors ht i l) _ ?_) i
    split
    · exact mirrors_same (delivery_missCut _ _ _) hs
    · exact hs

theorem takeGatePoint_mirrors : s.takeGatePoint.queueMirrors := by
  unfold State.takeGatePoint
  split
  · exact hs
  · split
    · exact hs
    · exact decideRow_mirrors hs _

/-! ### Landings and losses (R93 to R95) -/

omit hs in
theorem gapCheck_state (mode : SerialMode) (step : Nat) (skip : Option Cause) (k : Nat) (r : StackRecord) :
    (gapCheck mode step skip k r).state = r.state := by
  unfold gapCheck
  split
  · rfl
  · split <;> rfl

theorem creditStack_mirrors (l : Lane) (e : LaneEntry) (n : StackNo) : (s.creditStack l e n).queueMirrors := by
  unfold State.creditStack
  simp only [readRecord_clean _ s hs.clean]
  split
  · exact hs
  · split
    · exact hs
    · split
      · refine mirrors_same (by rfl : delivery _ = delivery (s.setStack n _)) (setStack_mirrors hs ?_)
        rw [gapCheck_state]
        exact Iff.rfl
      · exact setStack_mirrors hs Iff.rfl

theorem creditLanding_mirrors (i : RingSlot) (r : RowRecord) (l : Lane) : (s.creditLanding i r l).queueMirrors := by
  have hentry := mirrors_same (delivery_setEntry s i l { r.lanes[l] with landing := .landed }) hs
  unfold State.creditLanding
  dsimp only
  split
  · exact retireRows_mirrors (completeTest_mirrors (mirrors_same (by rfl) (creditStack_mirrors hentry l _ _)) _)
  · exact retireRows_mirrors (mirrors_same (by rfl) hentry)

theorem strayLanding_mirrors (l : Lane) : (s.strayLanding l).queueMirrors := by
  have ht : (s.setLane l { s.lanes[l] with stray := satInc s.lanes[l].stray }).queueMirrors := mirrors_same (by rfl) hs
  unfold State.strayLanding
  dsimp only
  split
  · exact ht
  · split
    · exact ht
    · unfold State.markStray
      dsimp only
      rw [readRecord_clean _ _ ht.clean]
      split
      · exact ht
      · exact setStack_mirrors ht Iff.rfl

theorem chargeLoss_mirrors (n : StackNo) : (s.chargeLoss n).queueMirrors := by
  unfold State.chargeLoss
  simp only [readRecord_clean _ s hs.clean]
  split
  · exact hs
  · split
    · exact hs
    · exact setStack_mirrors hs Iff.rfl

theorem loseLabel_mirrors (i : RingSlot) (l : Lane) : (State.loseLabel i s l).queueMirrors := by
  unfold State.loseLabel
  dsimp only
  split
  · exact hs
  · next r _ =>
    have hentry := mirrors_same (delivery_setEntry s i l { r.lanes[l] with landing := .lost }) hs
    split
    · split
      · exact completeTest_mirrors
          (mirrors_same (delivery_jamTest _ l) (mirrors_same (by rfl) (chargeLoss_mirrors hentry _))) _
      · exact mirrors_same (delivery_jamTest _ l) (mirrors_same (by rfl) hentry)
    · exact hs

theorem takeLandingEnd_mirrors : s.takeLandingEnd.queueMirrors := by
  unfold State.takeLandingEnd
  split
  · exact hs
  · exact retireRows_mirrors (foldl_keeps (P := State.queueMirrors) _ (fun t l ht => loseLabel_mirrors ht _ l) _ hs)

theorem takePocket_mirrors (l : Lane) : (s.takePocket l).queueMirrors := by
  unfold State.takePocket
  split
  · exact mirrors_same (by rfl) hs
  · split
    · exact strayLanding_mirrors hs l
    · split
      · exact hs
      · exact creditLanding_mirrors hs _ _ l

/-! ### The web position (R5 to R15) -/

theorem acceptMark_mirrors (how : Opening) (p : Pos) : (s.acceptMark how p).queueMirrors :=
  mirrors_same (delivery_openRow how p (by exact hs.clean)) (mirrors_same (by rfl) hs)

theorem takeMark_mirrors : s.takeMark.queueMirrors := by
  unfold State.takeMark
  split
  · exact mirrors_same (by rfl) hs
  · exact mirrors_same (by rfl) hs
  · exact mirrors_same (by rfl) hs
  · exact acceptMark_mirrors hs _ _
  · exact acceptMark_mirrors hs _ _

theorem takeSynthetic_mirrors : s.takeSynthetic.queueMirrors := by
  unfold State.takeSynthetic
  split
  · exact hs
  · refine mirrors_same (delivery_lossTest _) (mirrors_same (delivery_openRow _ _ ?_) (mirrors_same (by rfl) hs))
    exact hs.clean

theorem takeReverse_mirrors : s.takeReverse.queueMirrors := by
  unfold State.takeReverse
  split
  · exact mirrors_same (delivery_fall _ _) (mirrors_same (by rfl) hs)
  · exact hs

theorem takeZoneExpiry_mirrors : s.takeZoneExpiry.queueMirrors := by
  unfold State.takeZoneExpiry
  split
  · exact mirrors_same (by rfl) hs
  · exact hs

theorem takeSpacingExpiry_mirrors : s.takeSpacingExpiry.queueMirrors := by
  unfold State.takeSpacingExpiry
  split
  · exact mirrors_same (by rfl) hs
  · exact hs

theorem takeDue_mirrors (e : DueEvent) : (e.take s).queueMirrors := by
  cases e with
  | synthetic => exact takeSynthetic_mirrors hs
  | zoneExpiry => exact takeZoneExpiry_mirrors hs
  | spacingExpiry => exact takeSpacingExpiry_mirrors hs
  | reverse => exact takeReverse_mirrors hs
  | dieWindowEnd => exact mirrors_same (delivery_takeDieWindowEnd s) hs
  | gatePoint => exact takeGatePoint_mirrors hs
  | landingEnd => exact takeLandingEnd_mirrors hs

theorem takeOneDue_mirrors : s.takeOneDue.queueMirrors := by
  unfold State.takeOneDue
  split
  · exact hs
  · exact takeDue_mirrors hs _
  · exact takeDue_mirrors (mirrors_same (by rfl) hs) _

omit hs in
theorem settleFuel_mirrors (k : Nat) {s : State} (hs : s.queueMirrors) : (settleFuel k s).queueMirrors := by
  induction k generalizing s with
  | zero => exact hs
  | succ k ih =>
    unfold settleFuel
    split
    · exact hs
    · exact ih (takeOneDue_mirrors hs)

theorem settle_mirrors : s.settle.queueMirrors := settleFuel_mirrors 512 hs

theorem countEncoder_mirrors (e : EncoderStep) : (s.countEncoder e).queueMirrors := by
  cases e <;> exact mirrors_same (by rfl) hs

/-! ### Verdicts (R43 to R50) -/

theorem takeCharacter_mirrors (c : Option Byte) : (s.takeCharacter c).queueMirrors := by
  unfold State.takeCharacter
  split
  · exact hs
  · exact mirrors_same (by rfl) hs
  · exact mirrors_same (by rfl) hs

theorem lateLane_mirrors (r : RowRecord) (codes : List Byte) (l : Lane) : (State.lateLane r codes s l).queueMirrors := by
  unfold State.lateLane
  simp only [readRecord_clean _ s hs.clean]
  split
  · split
    · split
      · exact setStack_mirrors hs Iff.rfl
      · exact hs
    · exact hs
  · exact hs

theorem takeMessage_mirrors (tag : Byte) (codes : List Byte) : (s.takeMessage tag codes).queueMirrors := by
  unfold State.takeMessage
  split
  · split
    · unfold State.lateMessage
      exact foldl_keeps (P := State.queueMirrors) _ (fun t l ht => lateLane_mirrors ht _ _ l) _ (mirrors_same (by rfl) hs)
    · exact mirrors_same (by rfl) hs
  · exact mirrors_same (by rfl) hs
  · exact mirrors_same (by rfl) hs

theorem takeIdleGap_mirrors : s.takeIdleGap.queueMirrors := by
  have hempty : (s.setVerdict (s.verdict.empty .idle)).queueMirrors := mirrors_same (by rfl) hs
  unfold State.takeIdleGap
  split
  · exact mirrors_same (by rfl) hs
  · exact hs
  · unfold State.judge
    dsimp only
    split
    · exact takeMessage_mirrors hempty _ _
    · exact mirrors_same (by rfl) hempty

end

end Sys2Proof.Proofs
end

section
/-! SUPPORT. The requests keep the invariant of the delivery queue. -/

namespace Sys2Proof.Proofs

open Sys2Proof Sys2Proof.Machine Sys2Proof.Laws

/-- A request keeps the invariant when its rule does: its frame and its response are not in view. -/
theorem framed_mirrors (len : Nat) (form : Bool) {act : State → State × Status × List Byte}
    (hact : ∀ s : State, s.queueMirrors → (act s).1.queueMirrors) {s : State} (hs : s.queueMirrors) :
    ((s.framed len).request form act).queueMirrors := by
  have hbuilding : ({ s.framed len with port := .building } : State).queueMirrors := mirrors_same (by rfl) hs
  unfold State.request
  split
  · exact mirrors_same (by rfl) hs
  · split
    · exact mirrors_same (by rfl) (hact _ hbuilding)
    · exact mirrors_same (by rfl) hs

section
variable {s : State} (hs : s.queueMirrors)
include hs

/-! ### Rows, modes and counters -/

theorem rowReject_mirrors (tag : Byte) (lanes : BitVec 16) : (rowRejectRule tag lanes s).1.queueMirrors := by
  unfold rowRejectRule
  split
  · exact hs
  · split
    · split
      · exact hs
      · exact mirrors_same (by rfl) hs
    · exact hs
    · exact hs

theorem rowRead_mirrors (tag part : Byte) : (rowReadRule tag part s).1.queueMirrors := by
  unfold rowReadRule
  split
  · split <;> exact hs
  · exact hs

theorem modeRun_mirrors : (modeRunRule s).1.queueMirrors := by
  unfold modeRunRule
  split
  · exact hs
  · show s.modeRun.queueMirrors
    unfold State.modeRun
    split
    · exact mirrors_same (by rfl) hs
    · exact mirrors_same (by rfl) hs
    · exact hs
    · exact mirrors_same (by rfl) hs

theorem modePark_mirrors : (modeParkRule s).1.queueMirrors := by
  show s.modePark.queueMirrors
  unfold State.modePark
  split
  · exact mirrors_same (by rfl) hs
  · exact hs
  · exact enterDraining_mirrors hs
  · exact enterDraining_mirrors hs

theorem takeStatus_mirrors (mask : BitVec 16) (quality page : Byte) : (s.takeStatus mask quality page).queueMirrors := by
  unfold State.takeStatus
  dsimp only
  split <;> exact mirrors_same (by rfl) hs

theorem counterWrite_mirrors (p : CounterPayload) : (counterWriteRule p s).1.queueMirrors := by
  unfold counterWriteRule
  split
  · next c cfg _ _ =>
    have hrec : (s.setCounterRec c cfg).queueMirrors := mirrors_same (by rfl) hs
    show (s.writeCounter c cfg).queueMirrors
    rw [State.writeCounter, clearFlips_clean hrec.clean]
    exact mirrors_same (by rfl) hrec
  · exact hs

theorem counterRead_mirrors (c : Byte) : (counterReadRule c s).1.queueMirrors := by
  unfold counterReadRule
  split
  · exact hs
  · exact read_mirrors hs _

/-! ### The geometry record (R61, R74, R155) -/

/-- R155: the capacity carried has room for the entries and the stack in transfer. -/
theorem loadGeometry_mirrors {g : Settings} (hroom : s.queue.entries.length + s.shuttle.state.inTransfer ≤ g.capacity) :
    (s.loadGeometry g).queueMirrors := by
  unfold State.loadGeometry
  rw [clearFlips_clean (by exact hs.clean)]
  exact ⟨hs.clean, hs.damaged, hs.delivered, hs.once, hroom, fun _ => rfl⟩

theorem applyGeometry_mirrors : s.applyGeometry.queueMirrors := by
  rw [applyGeometry_clean hs.clean]
  exact grant_mirrors (mirrors_same (by rfl) hs)

theorem geometryWrite_mirrors (p : GeometryPayload) : (geometryWriteRule p s).1.queueMirrors := by
  unfold geometryWriteRule reply
  rw [readRecord_clean _ s hs.clean]
  split
  · exact hs
  · split
    · exact hs
    · split
      · split
        · exact hs
        · next hroom =>
          dsimp only
          exact applyGeometry_mirrors (loadGeometry_mirrors hs (Nat.le_of_not_lt hroom))
      · exact hs

theorem geometryRead_mirrors : (geometryReadRule s).1.queueMirrors := by
  unfold geometryReadRule
  dsimp only
  split <;> exact read_mirrors hs _

theorem offsetNudge_mirrors (delta : BitVec 16) : (offsetNudgeRule delta s).1.queueMirrors := by
  unfold offsetNudgeRule
  simp only [readRecord_clean _ s hs.clean]
  split
  · exact hs
  · show (if delta = 0 then s else s.setOffset _).queueMirrors
    split
    · exact hs
    · exact mirrors_same (by rfl) hs

/-! ### Jobs (R101 to R107) -/

theorem readOpenStacks_mirrors : s.readOpenStacks.queueMirrors := readAll_mirrors hs _

theorem readAndRetest_mirrors (l : Lane) : (s.readAndRetest l).queueMirrors := by
  rw [readAndRetest_clean l hs.clean]
  exact mirrors_same (by rfl) hs

/-- R102: a job record written whole, and the lanes that name it tested. -/
theorem setJob_mirrors (j : JobSlot) (r : JobRecord) : ((s.setJob j r).clearFlips (.job j)).queueMirrors := by
  rw [clearFlips_clean (by exact hs.clean)]
  exact mirrors_same (by rfl) hs

theorem retestNaming_mirrors (j : JobSlot) : (s.retestNaming j).queueMirrors := by
  unfold State.retestNaming
  refine foldl_keeps (P := State.queueMirrors) _ (fun t l ht => ?_) _ hs
  split
  · exact readAndRetest_mirrors ht l
  · exact ht

theorem jobWriteActive_mirrors (p : JobPayload) (mode : SerialMode) (j : JobSlot) :
    (jobWriteActive p mode j s).1.queueMirrors := by
  unfold jobWriteActive
  rw [readOpenStacks_clean hs.clean]
  dsimp only
  split
  · exact hs
  · split
    · exact hs
    · split
      · exact hs
      · exact setJob_mirrors hs _ _

theorem jobWriteNew_mirrors (p : JobPayload) (mode : SerialMode) (j : JobSlot) :
    (jobWriteNew p mode j s).1.queueMirrors := by
  unfold jobWriteNew reply
  dsimp only
  rw [readAll_clean _ s hs.clean, readOpenStacks_clean hs.clean]
  split
  · exact hs
  · split
    · exact hs
    · split
      · exact hs
      · dsimp only
        exact retestNaming_mirrors (setJob_mirrors hs _ _) j

theorem jobWrite_mirrors (p : JobPayload) : (jobWriteRule p s).1.queueMirrors := by
  unfold jobWriteRule
  simp only [readRecord_clean _ s hs.clean]
  split
  · split
    · split
      · exact hs
      · exact jobWriteActive_mirrors hs _ _ _
      · exact jobWriteNew_mirrors hs _ _ _
    · exact hs
  · exact hs

theorem jobRead_mirrors (slot : Byte) : (jobReadRule slot s).1.queueMirrors := by
  unfold jobReadRule
  split
  · exact hs
  · dsimp only
    split
    · exact read_mirrors hs _
    · exact readOpenStacks_mirrors (read_mirrors hs _)

theorem endJob_mirrors (j : JobSlot) : (s.endJob j).queueMirrors := by
  unfold State.endJob
  split
  · exact mirrors_same (by rfl) hs
  · exact mirrors_same (delivery_slotGone _ _) (mirrors_same (by rfl) hs)

theorem jobEnd_mirrors (slot : Byte) : (jobEndRule slot s).1.queueMirrors := by
  unfold jobEndRule
  split
  · exact hs
  · dsimp only
    split
    · exact endJob_mirrors (read_mirrors hs _) _
    · exact read_mirrors hs _

/-! ### Lanes (R91, R109, R110, R115) -/

theorem writeLane_mirrors (p : LanePayload) (l : Lane) (slot : Option JobSlot) : (s.writeLane p l slot).queueMirrors := by
  unfold State.writeLane
  dsimp only
  rw [clearFlips_clean (by exact hs.clean)]
  exact readAndRetest_mirrors (mirrors_same (by rfl) hs) l

theorem laneWrite_mirrors (p : LanePayload) : (laneWriteRule p s).1.queueMirrors := by
  have hread (l : Lane) : (s.readForLaneWrite p l).queueMirrors := by
    unfold State.readForLaneWrite
    split
    · exact hs
    · exact read_mirrors hs _
  unfold laneWriteRule
  split
  · next l slot _ _ =>
    split
    · have hwritten := writeLane_mirrors (hread l) p l slot
      show (State.sealStopped _ l).1.queueMirrors
      unfold State.sealStopped
      split
      · exact hwritten
      · exact sealLane_mirrors hwritten _ _
    · exact hs
  · exact hs

theorem readForOpening_mirrors (l : Lane) : (s.readForOpening l).queueMirrors := by
  rw [readForOpening_clean s l hs.clean]
  exact hs

theorem laneRead_mirrors (lane : Byte) : (laneReadRule lane s).1.queueMirrors := by
  unfold laneReadRule
  split
  · exact hs
  · exact readForOpening_mirrors hs _

theorem laneClear_mirrors (lane close : Byte) : (laneClearRule lane close s).1.queueMirrors := by
  unfold laneClearRule
  split
  · exact hs
  · next l _ =>
    have hunjam : ((s.readForOpening l).unjam l).queueMirrors := mirrors_same (by rfl) (readForOpening_mirrors hs l)
    split
    · unfold reply
      dsimp only
      split
      · exact sealLane_mirrors hunjam _ _
      · exact hunjam
    · exact hs

/-! ### Stacks (R132, R135, R136, R148, R195) -/

theorem stackRead_mirrors (stack part : Byte) : (stackReadRule stack part s).1.queueMirrors := by
  unfold stackReadRule
  split
  · exact hs
  · split
    · exact read_mirrors hs _
    · exact hs

theorem stackList_mirrors (selector start : Byte) : (stackListRule selector start s).1.queueMirrors := by
  unfold stackListRule
  split
  · exact hs
  · split
    · exact hs
    · exact readAll_mirrors hs _

theorem stackClose_mirrors (lane : Byte) : (stackCloseRule lane s).1.queueMirrors := by
  unfold stackCloseRule
  split
  · exact hs
  · next l _ =>
    have hsealed := sealLane_mirrors hs l .close
    split
    · exact hs
    · split
      · next he => rw [he] at hsealed; exact hsealed
      · next he => rw [he] at hsealed; exact hsealed

theorem setTarget_mirrors {n : StackNo} (v : Nat) (hn : (s.stack n).state ≠ .delivered) :
    (s.setTarget n v).queueMirrors := by
  have ht : (s.setStack n { s.stack n with target := v }).queueMirrors := setStack_mirrors hs Iff.rfl
  have hwritten := stack_written (n := n) (r := { s.stack n with target := v }) hs.damaged
  unfold State.setTarget
  dsimp only
  split
  · exact seal_mirrors ht (by rw [hwritten]; exact hn) _
  · exact ht

theorem stackTarget_mirrors (stack : Byte) (value : BitVec 16) : (stackTargetRule stack value s).1.queueMirrors := by
  unfold stackTargetRule
  simp only [readRecord_clean _ s hs.clean]
  split
  · exact hs
  · split
    · next hopen =>
      split
      · exact setTarget_mirrors hs _ (by rw [hopen]; simp)
      · exact hs
    · exact hs

theorem shuttleClear_mirrors : (shuttleClearRule s).1.queueMirrors := by
  unfold shuttleClearRule
  split
  · exact grant_mirrors (shuttle_empty_mirrors hs rfl)
  · exact hs

end

end Sys2Proof.Proofs
end

section
/-! SUPPORT. Power-fail and the reset sequence keep the invariant of the delivery queue: the records stay DELIVERED until the
queue is rebuilt from them. -/

namespace Sys2Proof.Proofs

open Sys2Proof Sys2Proof.Machine Sys2Proof.Laws

/-! ### Power-fail (R76, R185) -/

section
variable {s : State} (hs : s.queueMirrors)
include hs

theorem assertPfail_mirrors : s.assertPfail.queueMirrors := by
  unfold State.assertPfail
  split
  · exact hs
  · exact mirrors_same (by rfl) hs

theorem writeSavedTrim_mirrors : s.writeSavedTrim.queueMirrors := by
  unfold State.writeSavedTrim
  split
  · exact hs
  · have hread : (readRecord .geometry { s with memory := { s.memory with trimToSave := none } }).queueMirrors :=
      read_mirrors (mirrors_same (by rfl) hs) _
    dsimp only
    split
    · exact hread
    · rw [clearWords_clean _ _ (by exact hread.clean)]
      exact mirrors_same (by rfl) hread

end

/-! ### Before the queue is rebuilt (R138, R139, R187) -/

/-- The records that are DELIVERED, in ascending number. -/
def deliveredRecords (s : State) : List StackNo := (List.finRange 64).filter (delivery s).delivered

/-- The part during a reset: the DELIVERED records fit the capacity of the geometry record, unless that is damaged. -/
structure Rebuildable (s : State) : Prop where
  clean : s.memory.flips = []
  damaged : s.memory.damagedSet = []
  fits : s.memory.geometry.damaged = false →
    s.memory.geometry.settings.capacity = s.work.capacity ∧ (deliveredRecords s).length ≤ s.work.capacity

theorem rebuildable_same {s t : State} (h : delivery t = delivery s) (hs : Rebuildable s) : Rebuildable t := by
  have hrecords : deliveredRecords t = deliveredRecords s := by rw [deliveredRecords, h, deliveredRecords]
  have hdamaged := congrArg DeliveryView.geometryDamaged h
  have hcapacity := congrArg DeliveryView.capacity h
  have hworking := congrArg DeliveryView.workingCapacity h
  refine ⟨(congrArg DeliveryView.flips h).trans hs.clean, (congrArg DeliveryView.damagedSet h).trans hs.damaged,
    fun hg => ?_⟩
  obtain ⟨hc, hl⟩ := hs.fits (hdamaged.symm.trans hg)
  rw [hrecords]
  exact ⟨hcapacity.trans (hc.trans hworking.symm), Nat.le_trans hl (Nat.le_of_eq hworking.symm)⟩

/-- The DELIVERED records are no more than the entries that mirror them. -/
theorem deliveredRecords_length {s : State} (hs : s.queueMirrors) :
    (deliveredRecords s).length ≤ s.queue.entries.length := by
  have hsubset : deliveredRecords s ⊆ s.queue.entries.filterMap id := by
    intro n hn
    have hd : s.memory.stackRecs[n].state = .delivered := beq_iff_eq.mp (List.mem_filter.mp hn).2
    exact List.mem_filterMap.mpr ⟨some n, (hs.delivered n).mpr hd, rfl⟩
  have hnodup : (deliveredRecords s).Nodup := (List.nodup_finRange 64).filter _
  exact Nat.le_trans (hnodup.length_le_of_subset hsubset) (List.length_filterMap_le _ _)

theorem rebuildable_of_mirrors {s : State} (hs : s.queueMirrors) : Rebuildable s := by
  have hlength := deliveredRecords_length hs
  have hcapacity := hs.capacity
  exact ⟨hs.clean, hs.damaged, fun hg => ⟨hs.working hg, by omega⟩⟩

theorem delivery_raiseIfDamaged (s : State) (refs : List RecordRef) : delivery (s.raiseIfDamaged refs) = delivery s := by
  rw [raiseIfDamaged_frame]
  rfl

section
variable {s : State} (hs : Rebuildable s)
include hs

/-- R187, step 2: the working copies are loaded from the record, or from the defaults when it is damaged. -/
theorem restoreGeometry_rebuildable (cold : Bool) : Rebuildable (s.restoreGeometry cold) := by
  have hmarked : s.geometryDamaged = s.memory.geometry.damaged := isDamaged_eq_marked hs.damaged .geometry
  unfold State.restoreGeometry
  rw [raiseIfDamaged_frame]
  refine ⟨hs.clean, hs.damaged, fun hg => ?_⟩
  obtain ⟨hcapacity, hlength⟩ := hs.fits hg
  have hg' : s.geometryDamaged = false := hmarked.trans hg
  have hwork : (if s.geometryDamaged then Settings.default else s.memory.geometry.settings) =
      s.memory.geometry.settings := by rw [hg']; rfl
  dsimp only
  rw [hwork]
  exact ⟨rfl, Nat.le_trans hlength (Nat.le_of_eq hcapacity.symm)⟩

theorem restoreJob_rebuildable (j : JobSlot) : Rebuildable (s.restoreJob j) := by
  unfold State.restoreJob
  split
  · exact rebuildable_same (by rfl) hs
  · exact hs

theorem restoreLanes_rebuildable : Rebuildable s.restoreLanes :=
  rebuildable_same (delivery_raiseIfDamaged _ _) (rebuildable_same (by rfl) hs)

/-- R138: a record is DELIVERED after its restore when it was before. -/
theorem restoreStack_rebuildable (n : StackNo) : Rebuildable (s.restoreStack n) := by
  have hstate (r : StackRecord) : (restoredStack r).state = .delivered ↔ r.state = .delivered := by
    unfold restoredStack
    split
    · rfl
    · rfl
    · next h => simp [h]
    · rfl
  unfold State.restoreStack
  split
  · exact hs
  · exact rebuildable_same (delivery_setStack hs.damaged (hstate _)) hs

theorem restoreSeal_rebuildable (l : Lane) : Rebuildable (s.restoreSeal l) := by
  unfold State.restoreSeal
  split
  · split
    · exact hs
    · next hopen =>
      exact rebuildable_same
        (delivery_setStack hs.damaged (iff_of_false (by simp) (by rw [(laneStack_some hopen).1]; simp))) hs
  · exact hs

theorem restoreComplete_rebuildable (l : Lane) (n : StackNo) : Rebuildable (s.restoreComplete l n) := by
  unfold State.restoreComplete
  split
  · next h => exact rebuildable_same (delivery_moveComplete hs.damaged (complete_not_delivered h.2.2)) hs
  · exact hs

theorem restorePush_rebuildable (l : Lane) : Rebuildable (s.restorePush l) := by
  by_cases hp : s.pfail = true
  · rw [State.restorePush, if_pos hp]
    exact hs
  · rw [restorePush_eq l ⟨hs.clean, by simpa using hp⟩]
    exact rebuildable_same (delivery_pushHeld l hs.clean hs.damaged) hs

end

/-! ### The queue rebuilt (R159) -/

theorem insertDelivered_perm (s : State) (n : StackNo) (ms : List StackNo) :
    (insertDelivered s n ms).Perm (n :: ms) := by
  induction ms with
  | nil => rfl
  | cons m ms ih =>
    unfold insertDelivered
    split
    · rfl
    · exact (ih.cons m).trans (.swap n m ms)

/-- R159: the order by delivery sequence neither loses nor adds a record. -/
theorem deliveredInOrder_perm {s : State} (hd : s.memory.damagedSet = []) :
    s.deliveredInOrder.Perm (deliveredRecords s) := by
  have hfilter : (List.finRange 64).filter (fun n => (s.stack n).state == .delivered) = deliveredRecords s :=
    List.filter_congr fun n _ => by rw [stack_image s n hd]; rfl
  unfold State.deliveredInOrder
  rw [hfilter]
  induction deliveredRecords s with
  | nil => rfl
  | cons n ns ih => exact (insertDelivered_perm s n _).trans (ih.cons n)

theorem rebuildQueue_mirrors {s : State} (hs : Rebuildable s) (hidle : s.shuttle.state = .idle) :
    s.rebuildQueue.queueMirrors := by
  have hperm := deliveredInOrder_perm hs.damaged
  have hmarked : s.geometryDamaged = s.memory.geometry.damaged := isDamaged_eq_marked hs.damaged .geometry
  refine ⟨hs.clean, hs.damaged, fun n => ?_, ?_, ?_, fun hg => ?_⟩
  · have hmem : n ∈ s.deliveredInOrder ↔ s.memory.stackRecs[n].state = .delivered := by
      rw [hperm.mem_iff, deliveredRecords, List.mem_filter]
      simp [delivery]
    refine Iff.trans ?_ hmem
    simp [State.rebuildQueue]
  · have hnodup : s.deliveredInOrder.Nodup := hperm.nodup_iff.mpr ((List.nodup_finRange 64).filter _)
    simpa [State.rebuildQueue] using hnodup
  · have hlength := hperm.length_eq
    simp only [State.rebuildQueue, List.length_map, hidle, ShuttleState.inTransfer, hmarked]
    split
    · omega
    · next hg => have := (hs.fits (by simpa using hg)).2; omega
  · have hg' : s.geometryDamaged = false := hmarked.trans hg
    have hfits := (hs.fits hg).1
    simpa [State.rebuildQueue, hg'] using hfits

/-! ### The sequence (R186, R187) -/

/-- R186: what every step of a list keeps, and PFAIL's level does not touch, the list keeps. -/
theorem runSteps_preserves {P : State → Prop} (hlevel : ∀ s b, P s → P { s with pfail := b }) (p : Option Nat)
    {fs : List ResetStep} (hf : ∀ f ∈ fs, ∀ s, P s → P (f s)) (k : Nat) {s : State} (hs : P s) :
    P (runSteps p k fs s) := by
  induction fs generalizing k s with
  | nil => exact hlevel s _ hs
  | cons f fs ih =>
    exact ih (fun g hg => hf g (List.mem_cons_of_mem f hg)) _ (hf f List.mem_cons_self _ (hlevel s _ hs))

theorem runSteps_append (p : Option Nat) (as bs : List ResetStep) (k : Nat) (s : State) :
    runSteps p k (as ++ bs) s = runSteps p (k + as.length) bs (runSteps p k as s) := by
  induction as generalizing k s with
  | nil => cases bs <;> rfl
  | cons a as ih =>
    rw [List.cons_append, runSteps, ih, List.length_cons, Nat.add_right_comm, Nat.add_assoc]
    rfl

/-- R187: the steps before the shuttle and the queue. -/
def stepsBeforeQueue (cold : Bool) : List ResetStep :=
  scanSteps ++ (fun s => s.restoreGeometry cold) :: (tableSteps ++ stackSteps)

theorem stepsBeforeQueue_rebuildable (cold : Bool) :
    ∀ f ∈ stepsBeforeQueue cold, ∀ s, Rebuildable s → Rebuildable (f s) := by
  intro f hf s hs
  simp only [stepsBeforeQueue, scanSteps, tableSteps, stackSteps, laneSteps, List.mem_cons, List.mem_append,
    List.mem_map, List.mem_flatMap, List.not_mem_nil, or_false] at hf
  rcases hf with ⟨r, _, rfl⟩ | rfl | ((⟨j, _, rfl⟩ | rfl) | ⟨n, _, rfl⟩ | ⟨l, _, rfl | ⟨n, _, rfl⟩ | rfl⟩)
  · rw [scanRecord_clean r s hs.clean]
    exact hs
  · exact restoreGeometry_rebuildable hs cold
  · exact restoreJob_rebuildable hs j
  · exact restoreLanes_rebuildable hs
  · exact restoreStack_rebuildable hs n
  · exact restoreSeal_rebuildable hs l
  · exact restoreComplete_rebuildable hs l n
  · exact restorePush_rebuildable hs l

theorem restoreCounters_mirrors (cold : Bool) {s : State} (hs : s.queueMirrors) : (s.restoreCounters cold).queueMirrors :=
  mirrors_same (delivery_raiseIfDamaged _ _) (mirrors_same (by rfl) hs)

/-- R187: what a reset does before its first step. -/
theorem delivery_begun (cold : Bool) {s : State} (hd : s.memory.damagedSet = []) :
    delivery ((s.beforeScan cold).resetVolatile cold) = delivery s := by
  simp only [delivery, State.beforeScan, State.resetVolatile, hd]

theorem shuttleReset_rebuildable (cold level : Bool) {s : State} (hs : Rebuildable s) :
    Rebuildable (State.resetShuttle { s with pfail := level } cold) := ⟨hs.clean, hs.damaged, hs.fits⟩

/-- R187, R159: a reset leaves a queue that mirrors the DELIVERED records it found. -/
theorem resetPart_mirrors (cold : Bool) (p : Option Nat) {s : State} (hs : s.queueMirrors) :
    (s.resetPart cold p).queueMirrors := by
  have hsplit : resetSteps cold = stepsBeforeQueue cold ++ lastSteps cold := by
    simp only [resetSteps, stepsBeforeQueue, List.append_assoc, List.cons_append]
  have hbegun : Rebuildable ((s.beforeScan cold).resetVolatile cold) :=
    rebuildable_same (delivery_begun cold hs.damaged) (rebuildable_of_mirrors hs)
  have hlevel (t : State) (b : Bool) (ht : Rebuildable t) : Rebuildable { t with pfail := b } :=
    rebuildable_same (by rfl) ht
  have hready := runSteps_preserves hlevel p (stepsBeforeQueue_rebuildable cold) 0 hbegun
  unfold State.resetPart
  rw [hsplit, runSteps_append, lastSteps, runSteps]
  generalize runSteps p 0 (stepsBeforeQueue cold) ((s.beforeScan cold).resetVolatile cold) = t at hready
  have hrebuilt := rebuildQueue_mirrors
    (shuttleReset_rebuildable cold (pfailAt p (0 + (stepsBeforeQueue cold).length)) hready) rfl
  refine runSteps_preserves (P := State.queueMirrors) (fun u b hu => mirrors_same (by rfl) hu) p ?_ _ hrebuilt
  intro f hf u hu
  simp only [List.mem_cons, List.not_mem_nil, or_false] at hf
  rcases hf with rfl | rfl
  · exact grant_mirrors hu
  · exact restoreCounters_mirrors cold hu

theorem resetWith_mirrors (cold : Bool) (c : ResetCourse) {s : State} (hs : s.queueMirrors) :
    (s.resetWith cold c).queueMirrors := by
  unfold State.resetWith
  rw [edgesAtReset_eq]
  exact resetPart_mirrors cold _ (mirrors_same (by rfl) hs)

/-- R191: RESET by its own rule. -/
theorem resetRule_mirrors (c : ResetCourse) {s : State} (hs : s.queueMirrors) : (resetRule c s).1.queueMirrors := by
  have hreset := resetWith_mirrors false c hs
  unfold resetRule reply
  dsimp only
  exact hreset

theorem port_mirrors (port : ResponseSlot) {s : State} (hs : s.queueMirrors) : { s with port := port }.queueMirrors :=
  mirrors_same (by rfl) hs

theorem resetEmpty_mirrors (cold : Bool) (c : ResetCourse) {s : State} (hs : s.queueMirrors) :
    (s.resetEmpty cold c).queueMirrors := port_mirrors .empty (resetWith_mirrors cold c hs)

theorem negatePfail_mirrors (c : ResetCourse) {s : State} (hs : s.queueMirrors) : (s.negatePfail c).queueMirrors := by
  unfold State.negatePfail
  split
  · exact resetEmpty_mirrors _ _ (writeSavedTrim_mirrors hs)
  · exact hs

end Sys2Proof.Proofs
end

section
/-! SUPPORT. Every command, and with it every step, keeps the invariant of the delivery queue. -/

namespace Sys2Proof.Proofs

open Sys2Proof Sys2Proof.Machine Sys2Proof.Laws

/-- R193: a request frame of known code acts as one of the other commands, or is refused for its argument. -/
theorem takeRequest_acts (code : Nat) (p : List Byte) (s : State) :
    (∃ c : Instr, (∀ bytes, c ≠ .refusedFrame bytes) ∧ takeRequest code p s = exec c s) ∨
      ∃ len, takeRequest code p s = .next (s.refuseArg len) := by
  unfold takeRequest
  split
  · exact .inl ⟨.status (payloadField 16 p 0 2) (payloadByte p 2) (payloadByte p 3), nofun, rfl⟩
  · exact .inl ⟨.attentionMask (payloadField 16 p 0 2), nofun, rfl⟩
  · unfold takeMode
    split
    · exact .inl ⟨.modeRun, nofun, rfl⟩
    · split
      · exact .inl ⟨.modePark, nofun, rfl⟩
      · exact .inr ⟨1, rfl⟩
  · exact .inl ⟨.reset ResetCourse.quiet, nofun, rfl⟩
  · exact .inl ⟨.geometryWrite (geometryPayloadOf p), nofun, rfl⟩
  · exact .inl ⟨.geometryRead, nofun, rfl⟩
  · exact .inl ⟨.offsetNudge (payloadField 16 p 0 2), nofun, rfl⟩
  · exact .inl ⟨.jobWrite (jobPayloadOf p), nofun, rfl⟩
  · exact .inl ⟨.jobRead (payloadByte p 0), nofun, rfl⟩
  · exact .inl ⟨.jobEnd (payloadByte p 0), nofun, rfl⟩
  · exact .inl ⟨.laneWrite (lanePayloadOf p), nofun, rfl⟩
  · exact .inl ⟨.laneRead (payloadByte p 0), nofun, rfl⟩
  · exact .inl ⟨.laneClear (payloadByte p 0) (payloadByte p 1), nofun, rfl⟩
  · exact .inl ⟨.stackRead (payloadByte p 0) (payloadByte p 1), nofun, rfl⟩
  · exact .inl ⟨.stackList (payloadByte p 0) (payloadByte p 1), nofun, rfl⟩
  · exact .inl ⟨.stackClose (payloadByte p 0), nofun, rfl⟩
  · exact .inl ⟨.stackTarget (payloadByte p 0) (payloadField 16 p 1 2), nofun, rfl⟩
  · unfold takeRetire
    split
    · exact .inl ⟨.stackRetire (payloadByte p 0), nofun, rfl⟩
    · split
      · exact .inl ⟨.stackRetireAll (payloadByte p 0), nofun, rfl⟩
      · exact .inr ⟨2, rfl⟩
  · exact .inl ⟨.rowRead (payloadByte p 0) (payloadByte p 1), nofun, rfl⟩
  · exact .inl ⟨.rowReject (payloadByte p 0) (payloadField 16 p 1 2), nofun, rfl⟩
  · exact .inl ⟨.counterWrite (counterPayloadOf p), nofun, rfl⟩
  · exact .inl ⟨.counterRead (payloadByte p 0), nofun, rfl⟩
  · exact .inl ⟨.shuttleClear, nofun, rfl⟩

section
variable {s : State} (hs : s.queueMirrors)
include hs

theorem heldPush_mirrors (l : Lane) : Meets State.queueMirrors (execHeldPush l s) := by
  unfold execHeldPush
  split
  · exact meets_next hs
  · exact meets_next (grant_mirrors (pushHeld_mirrors hs l))

theorem takeComplete_mirrors (n : StackNo) : (s.takeComplete n).queueMirrors := by
  rw [takeComplete_clean n hs.clean]
  exact completeTest_mirrors hs n

theorem readTransfer_mirrors (k : Nat) : (s.readTransfer k).queueMirrors := by
  unfold State.readTransfer
  split
  · exact hs
  · exact mirrors_same (by rfl) hs

/-- Every command but a transfer judged by the port keeps the invariant. -/
theorem command_mirrors (c : Instr) (hc : ∀ bytes, c ≠ .refusedFrame bytes) : Meets State.queueMirrors (exec c s) := by
  cases c with
  | encoderTransition e => exact meets_next (countEncoder_mirrors (settle_mirrors hs) e)
  | reverseEvent => exact meets_next (takeReverse_mirrors hs)
  | mark => exact meets_next (takeMark_mirrors hs)
  | syntheticMark => exact meets_next (takeSynthetic_mirrors hs)
  | lossLimit => exact meets_next (mirrors_same (delivery_lossTest s) hs)
  | riseToTracking => exact meets_next (mirrors_same (delivery_riseTest s) hs)
  | splice => exact meets_next (mirrors_same (by rfl) hs)
  | spliceZoneExpiry => exact meets_next (takeZoneExpiry_mirrors hs)
  | spacingReferenceExpiry => exact meets_next (takeSpacingExpiry_mirrors hs)
  | dieIndex => exact meets_next (mirrors_same (delivery_takeDieIndex s) hs)
  | dieWindowEnd => exact meets_next (mirrors_same (delivery_takeDieWindowEnd s) hs)
  | trimMessageSent => exact meets_next (mirrors_same (delivery_messageSent s) hs)
  | verdictCharacter c => exact meets_next (takeCharacter_mirrors hs c)
  | idleGap => exact meets_next (takeIdleGap_mirrors hs)
  | gatePoint => exact meets_next (takeGatePoint_mirrors hs)
  | windowPublish c => exact meets_next (mirrors_same (delivery_windowPublish s c) hs)
  | thresholdReached c => exact meets_next (mirrors_same (delivery_thresholdReached s c) hs)
  | pocket l => exact meets_next (takePocket_mirrors hs l)
  | landingWindowEnd => exact meets_next (takeLandingEnd_mirrors hs)
  | laneJammed l => exact meets_next (mirrors_same (delivery_jamTest s l) hs)
  | stackComplete n => exact meets_next (takeComplete_mirrors hs n)
  | heldPush l => exact heldPush_mirrors hs l
  | laneUnblock => exact meets_next (mirrors_same (delivery_unblockLanes s) hs)
  | rowRetire => exact meets_next (retireRows_mirrors hs)
  | slotEmpty j => exact meets_next (emptySlot_mirrors hs j)
  | drainComplete => exact meets_next (drainTest_mirrors hs)
  | shuttleGrant => exact meets_next (grant_mirrors hs)
  | done => exact meets_next (takeDone_mirrors hs)
  | fault => exact meets_next (takeFault_mirrors hs)
  | transferTimeout => exact meets_next (takeTimeout_mirrors hs)
  | taken => exact meets_next (takeTaken_mirrors hs)
  | pfailAssert => exact meets_next (assertPfail_mirrors hs)
  | savedTrimWrite => exact meets_next (writeSavedTrim_mirrors hs)
  | pfailNegate course => exact meets_next (negatePfail_mirrors course hs)
  | coldReset course => exact meets_next (resetEmpty_mirrors true course hs)
  | status mask quality page => exact meets_next (takeStatus_mirrors (mirrors_same (by rfl) hs) mask quality page)
  | attentionMask enabled => exact meets_next (framed_mirrors _ _ (fun _ ht => mirrors_same (by rfl) ht) hs)
  | modeRun => exact meets_next (framed_mirrors _ _ (fun _ ht => modeRun_mirrors ht) hs)
  | modePark => exact meets_next (framed_mirrors _ _ (fun _ ht => modePark_mirrors ht) hs)
  | reset course => exact meets_next (framed_mirrors _ _ (fun _ ht => resetRule_mirrors course ht) hs)
  | geometryWrite p => exact meets_next (framed_mirrors _ _ (fun _ ht => geometryWrite_mirrors ht p) hs)
  | geometryRead => exact meets_next (framed_mirrors _ _ (fun _ ht => geometryRead_mirrors ht) hs)
  | offsetNudge delta => exact meets_next (framed_mirrors _ _ (fun _ ht => offsetNudge_mirrors ht delta) hs)
  | jobWrite p => exact meets_next (framed_mirrors _ _ (fun _ ht => jobWrite_mirrors ht p) hs)
  | jobRead slot => exact meets_next (framed_mirrors _ _ (fun _ ht => jobRead_mirrors ht slot) hs)
  | jobEnd slot => exact meets_next (framed_mirrors _ _ (fun _ ht => jobEnd_mirrors ht slot) hs)
  | laneWrite p => exact meets_next (framed_mirrors _ _ (fun _ ht => laneWrite_mirrors ht p) hs)
  | laneRead lane => exact meets_next (framed_mirrors _ _ (fun _ ht => laneRead_mirrors ht lane) hs)
  | laneClear lane close => exact meets_next (framed_mirrors _ _ (fun _ ht => laneClear_mirrors ht lane close) hs)
  | stackRead stack part => exact meets_next (framed_mirrors _ _ (fun _ ht => stackRead_mirrors ht stack part) hs)
  | stackList sel start => exact meets_next (framed_mirrors _ _ (fun _ ht => stackList_mirrors ht sel start) hs)
  | stackClose lane => exact meets_next (framed_mirrors _ _ (fun _ ht => stackClose_mirrors ht lane) hs)
  | stackTarget stack value => exact meets_next (framed_mirrors _ _ (fun _ ht => stackTarget_mirrors ht stack value) hs)
  | stackRetire stack => exact meets_next (framed_mirrors _ _ (fun _ ht => stackRetire_mirrors ht stack) hs)
  | stackRetireAll stack => exact meets_next (framed_mirrors _ _ (fun _ ht => stackRetireAll_mirrors ht) hs)
  | rowRead tag part => exact meets_next (framed_mirrors _ _ (fun _ ht => rowRead_mirrors ht tag part) hs)
  | rowReject tag lanes => exact meets_next (framed_mirrors _ _ (fun _ ht => rowReject_mirrors ht tag lanes) hs)
  | counterWrite p => exact meets_next (framed_mirrors _ _ (fun _ ht => counterWrite_mirrors ht p) hs)
  | counterRead counter => exact meets_next (framed_mirrors _ _ (fun _ ht => counterRead_mirrors ht counter) hs)
  | shuttleClear => exact meets_next (framed_mirrors _ _ (fun _ ht => shuttleClear_mirrors ht) hs)
  | refusedFrame bytes => exact absurd rfl (hc bytes)
  | responseRead k => exact meets_next (readTransfer_mirrors hs k)

theorem refuseArg_mirrors (len : Nat) : (s.refuseArg len).queueMirrors :=
  framed_mirrors len false (fun _ ht => ht) hs

/-- R189, R190: a transfer judged by the port keeps the invariant. -/
theorem takeTransfer_mirrors (bytes : List Byte) : Meets State.queueMirrors (takeTransfer bytes s) := by
  unfold takeTransfer judgeFrame
  split
  · exact meets_next hs
  · split
    · split
      · exact meets_next (mirrors_same (by rfl) hs)
      · next code p _ =>
        split
        · exact meets_next (mirrors_same (by rfl) hs)
        · split
          · rcases takeRequest_acts code.toNat p s with ⟨c, hc, he⟩ | ⟨len, he⟩
            · rw [he]
              exact command_mirrors hs c hc
            · rw [he]
              exact meets_next (refuseArg_mirrors hs len)
          · split
            · exact meets_next (mirrors_same (by rfl) hs)
            · exact meets_next (refuseArg_mirrors hs _)
    · exact meets_next (readTransfer_mirrors hs _)

theorem exec_mirrors (c : Instr) : Meets State.queueMirrors (exec c s) := by
  by_cases hc : ∃ bytes, c = .refusedFrame bytes
  · obtain ⟨bytes, rfl⟩ := hc
    exact takeTransfer_mirrors hs bytes
  · exact command_mirrors hs c (fun bytes h => hc ⟨bytes, h⟩)

end

/-- Settles O5, by the command at the front of the queue, or by what the part does of itself. -/
theorem everyStepKeepsQueueMirrorsDelivered : Obligations.EveryStepKeepsQueueMirrorsDelivered := by
  intro s t hs hstep
  have hmeets : Meets State.queueMirrors (step s) := by
    cases hp : s.pending with
    | nil =>
      rw [step_idle hp]
      exact meets_next (writeSavedTrim_mirrors (settle_mirrors hs))
    | cons c rest =>
      rw [step_command hp]
      exact exec_mirrors (mirrors_same (by rfl) hs) c
  obtain ⟨u, hu, hmirrors⟩ := hmeets
  obtain rfl : u = t := Host.Outcome.next.inj (hu.symm.trans hstep)
  exact hmirrors

end Sys2Proof.Proofs
end

section
/-! SUPPORT. The line mode, the target mode and the expectation of a mark agree after every step: the agreement is a stable
predicate, so every operation keeps it. -/

namespace Sys2Proof.Proofs

open Sys2Proof Sys2Proof.Machine Sys2Proof.Laws

/-- The two conditions of the line: target RUN in SEEK or TRACKING, or target PARK with no mark expected. -/
theorem modesAgree_iff (s : State) :
    s.modesAgree ↔
      ((s.modes.mode = .seek ∨ s.modes.mode = .tracking) ∧ s.modes.target = .run) ∨
        (¬(s.modes.mode = .seek ∨ s.modes.mode = .tracking) ∧ s.modes.target ≠ .run ∧ s.position.expectation = none) := by
  unfold State.modesAgree
  rw [Option.isSome_iff_ne_none]
  by_cases hm : s.modes.mode = .seek ∨ s.modes.mode = .tracking
  · simp only [hm, iff_true, implies_true, and_true, true_and, not_true_eq_false, false_and, or_false]
  · simp only [hm, iff_false, imp_false, Classical.not_not, false_and, not_false_eq_true, true_and, false_or, ne_eq]

theorem modesAgree_running {s : State} (hm : s.modes.mode = .seek ∨ s.modes.mode = .tracking)
    (ht : s.modes.target = .run) : s.modesAgree := (modesAgree_iff s).mpr (.inl ⟨hm, ht⟩)

theorem modesAgree_idle {s : State} (hm : s.modes.mode = .parked ∨ s.modes.mode = .draining)
    (ht : s.modes.target ≠ .run) (hx : s.position.expectation = none) : s.modesAgree :=
  (modesAgree_iff s).mpr (.inr ⟨fun hr => not_idle_of_running hr hm, ht, hx⟩)

/-- R160: the target mode of a line in SEEK or TRACKING. -/
theorem modesAgree_target {s : State} (hs : s.modesAgree) (hm : s.modes.mode = .seek ∨ s.modes.mode = .tracking) :
    s.modes.target = .run := hs.1.mpr hm

/-- The agreement looks at the modes and the expectation alone. -/
theorem modesAgree_congr {s t : State} (hm : t.modes = s.modes) (hx : t.position.expectation = s.position.expectation)
    (hs : s.modesAgree) : t.modesAgree := by
  unfold State.modesAgree
  rw [hm, hx]
  exact hs

/-- The agreement does not look at the register unit, where the trim transmitter works. -/
theorem modesAgree_queueTrim {s : State} (m : TrimMessage) (hs : s.modesAgree) : (s.queueTrim m).modesAgree := by
  unfold State.queueTrim
  split
  · exact hs
  · split
    · exact hs
    · exact hs

theorem modesAgree_messageSent {s : State} (hs : s.modesAgree) : s.messageSent.modesAgree := by
  have hput : (s.putTrim 6).modesAgree := by
    rw [putTrim_frame]
    exact hs
  unfold State.messageSent
  split
  · exact hs
  · split
    · exact hput
    · exact hput

/-- R160, R9, R10: each update of the modes or of the expectation that an operation makes keeps their agreement. -/
theorem modesAgree_stable : Stable State.modesAgree where
  same hv hs := modesAgree_congr (congrArg View.modes hv) (congrArg View.expectation hv) hs
  parked {s} hs hm := by
    have hnot : ¬(s.modes.mode = .seek ∨ s.modes.mode = .tracking) := fun hr => not_idle_of_running hr (.inr hm)
    obtain ⟨hrun, -⟩ | ⟨-, ht, hx⟩ := (modesAgree_iff s).mp hs
    · exact absurd hrun hnot
    · exact modesAgree_idle (.inl rfl) ht hx
  draining _ := modesAgree_idle (.inr rfl) nofun rfl
  rise hs hm :=
    have ht := modesAgree_target hs (.inl hm)
    modesAgree_running (.inr rfl) ht
  fall hs hm :=
    have ht := modesAgree_target hs (.inr hm)
    modesAgree_running (.inl rfl) ht
  seek _ := modesAgree_running (.inl rfl) rfl
  expect _ hs hm :=
    have ht := modesAgree_target hs hm
    modesAgree_running hm ht
  unsync hs := ⟨hs.1, nofun⟩
  settle _ _ hs := hs
  sample _ _ _ _ hs := hs
  queued m hs := modesAgree_queueTrim m hs
  sent hs := modesAgree_messageSent hs
  keep _ _ hs := hs
  join _ _ _ hs := hs
  scrub _ _ hs := hs
  reset _ _ := modesAgree_idle (.inl rfl) nofun rfl

/-- Settles O3: the agreement is stable, and no stable predicate is lost in a step. -/
theorem everyStepKeepsModesAgree : Obligations.EveryStepKeepsModesAgree := by
  intro s t hs hstep
  obtain ⟨u, hu, hagree⟩ := step_keeps modesAgree_stable (fun _ _ ht => ht) hs
  obtain rfl : u = t := Host.Outcome.next.inj (hu.symm.trans hstep)
  exact hagree

end Sys2Proof.Proofs
end

section
/-! SUPPORT. The condition counters: what a decided row adds, and when a counter publishes and reaches its threshold. -/

namespace Sys2Proof.Proofs

open Sys2Proof Sys2Proof.Machine Sys2Proof.Laws

theorem exec_windowPublish (c : CounterNo) (s : State) : exec (.windowPublish c) s = .next (s.windowPublish c) := rfl
theorem exec_thresholdReached (c : CounterNo) (s : State) :
    exec (.thresholdReached c) s = .next (s.thresholdReached c) := rfl

/-! ### What a row adds (R167) -/

/-- R167, R192: a lane counts when the counter's set names it and its disposition has its bit in the mask. -/
theorem counterMatches_eq (k : CounterConfig) (r : RowRecord) (l : Lane) :
    counterMatches k r l =
      (k.laneSet.getLsbD l.val && (match r.lanes[l].disposition with
        | .undecided => false
        | .stack _ => k.mask.getLsbD 0
        | .sample => k.mask.getLsbD 1
        | .waste w => k.mask.getLsbD (w.code + 1))) := by
  unfold counterMatches inLaneSet
  cases r.lanes[l].disposition <;> rfl

/-- R167: a LABEL counter takes the lanes that count, a ROW counter one for any. -/
theorem counterAdds_eq (k : CounterConfig) (r : RowRecord) {adds : Nat}
    (h : adds = ((List.finRange 12).filter (counterMatches k r)).length) :
    counterAdds k r = match k.unit with | .label => adds | .row => min adds 1 := by
  subst h
  unfold counterAdds
  cases k.unit with
  | label => rfl
  | row =>
    dsimp only
    split <;> omega

/-! ### The threshold (R169) -/

/-- R169: the attention logic after a published value of a counter with `action` reached its threshold. -/
def limitRaised (a : AttentionLogic) (action : CounterAction) : AttentionLogic :=
  { a with
      latched := a.latched ||| Attention.counterLimit.set
      qualityStop := a.qualityStop || decide (action = .stop) }

section
variable {s : State} {c : CounterNo}

theorem thresholdReached_raises (hoff : s.counterOff c = false) (hz : s.counters[c].config.threshold ≠ 0)
    (hp : s.counters[c].config.threshold ≤ s.counters[c].published.toNat) :
    s.thresholdReached c = { s with attention := limitRaised s.attention s.counters[c].config.action } := by
  rw [State.thresholdReached, if_pos ⟨hoff, hz, hp⟩]
  unfold limitRaised
  by_cases ha : s.counters[c].config.action = .stop
  · rw [if_pos ha, decide_eq_true ha, Bool.or_true]
    rfl
  · rw [if_neg ha, decide_eq_false ha, Bool.or_false]
    rfl

theorem thresholdReached_stays
    (h : s.counterOff c = true ∨ s.counters[c].config.threshold = 0 ∨
      s.counters[c].published.toNat < s.counters[c].config.threshold) : s.thresholdReached c = s := by
  refine if_neg fun ⟨hoff, hz, hp⟩ => ?_
  rcases h with h | h | h
  · rw [hoff] at h
    cases h
  · exact hz h
  · omega

/-- R168, R169: a counter that takes the values of `k` and is tested: the attention logic changes when the published
value is at the threshold. -/
theorem thresholdReached_setCounter (hoff : s.counterOff c = false) (k : CounterState) :
    (s.setCounter c k).thresholdReached c =
      { s with
          counters := vset s.counters c k
          attention :=
            if k.config.threshold ≠ 0 ∧ k.config.threshold ≤ k.published.toNat then limitRaised s.attention k.config.action
            else s.attention } := by
  have hk : (s.setCounter c k).counters[c] = k := vset_get_same _ _ _
  have hoff' : (s.setCounter c k).counterOff c = false := hoff
  by_cases ht : k.config.threshold ≠ 0 ∧ k.config.threshold ≤ k.published.toNat
  · obtain ⟨hz, hp⟩ := ht
    rw [if_pos ⟨hz, hp⟩, thresholdReached_raises hoff' (by rwa [hk]) (by rwa [hk]), hk]
    rfl
  · rw [if_neg ht, thresholdReached_stays]
    · rfl
    · rw [hk]
      omega

/-! ### The window (R168) -/

theorem windowPublish_publishes (hoff : s.counterOff c = false) (hm : s.counters[c].config.mode = .window)
    (hw : s.counters[c].config.window ≤ s.counters[c].rows) :
    s.windowPublish c =
      (s.setCounter c { s.counters[c] with
        published := s.counters[c].working, working := 0, rows := 0 }).thresholdReached c :=
  if_pos ⟨hoff, hm, hw⟩

theorem windowPublish_stays
    (h : s.counterOff c = true ∨ s.counters[c].config.mode = .accumulate ∨
      s.counters[c].rows < s.counters[c].config.window) : s.windowPublish c = s := by
  refine if_neg fun ⟨hoff, hm, hw⟩ => ?_
  rcases h with h | h | h
  · rw [hoff] at h
    cases h
  · rw [hm] at h
    cases h
  · omega

/-! ### A decided row (R167 to R169) -/

theorem evaluateCounter_off (r : RowRecord) (h : s.counterOff c = true) : State.evaluateCounter r s c = s := if_pos h

theorem evaluateCounter_window (r : RowRecord) (hoff : s.counterOff c = false)
    (hm : s.counters[c].config.mode = .window) :
    State.evaluateCounter r s c =
      State.windowPublish
        (s.setCounter c { s.counters[c] with
          working := satAdd s.counters[c].working (counterAdds s.counters[c].config r)
          rows := s.counters[c].rows + 1 }) c := by
  rw [State.evaluateCounter, if_neg (by rw [hoff]; decide)]
  dsimp only
  rw [hm]

/-- R168, R169: an ACCUMULATE counter publishes, and is tested when it was below its threshold. -/
theorem evaluateCounter_accumulate (r : RowRecord) (hoff : s.counterOff c = false)
    (hm : s.counters[c].config.mode = .accumulate) {t : State}
    (ht : t = s.setCounter c { s.counters[c] with
      working := satAdd s.counters[c].working (counterAdds s.counters[c].config r)
      published := satAdd s.counters[c].working (counterAdds s.counters[c].config r)
      rows := 0 }) :
    State.evaluateCounter r s c =
      if s.counters[c].published.toNat < s.counters[c].config.threshold then t.thresholdReached c else t := by
  rw [State.evaluateCounter, if_neg (by rw [hoff]; decide)]
  dsimp only
  rw [hm, ht]

end

/-- Settles O37, by the counter's mode, and by whether it publishes and whether it is at its threshold. -/
theorem counterTakesDecidedRowAndPublishes : Obligations.CounterTakesDecidedRowAndPublishes := by
  refine ⟨fun r s c adds k hk hadds working hworking => ?row, fun s c k hk => ?commands⟩
  case row =>
    subst hk
    have hcount : adds = ((List.finRange 12).filter (counterMatches s.counters[c].config r)).length :=
      hadds.trans (congrArg (fun p => ((List.finRange 12).filter p).length)
        (funext fun l => (counterMatches_eq s.counters[c].config r l).symm))
    obtain rfl : working = satAdd s.counters[c].working (counterAdds s.counters[c].config r) :=
      hworking.trans (congrArg (satAdd _) (counterAdds_eq _ r hcount).symm)
    refine ⟨evaluateCounter_off r, evaluateCounter_window r, fun hoff hm => ⟨fun hp => ?_, fun hp => ?_⟩⟩
    · rw [evaluateCounter_accumulate r hoff hm rfl, if_neg (Nat.not_lt.mpr hp)]
      rfl
    · rw [evaluateCounter_accumulate r hoff hm rfl, if_pos hp]
      rfl
  case commands =>
    subst hk
    refine ⟨fun h => ?_, fun hoff hm hw => ?_, fun h => ?_, fun hoff hz hp => ?_⟩
    · rw [exec_windowPublish, windowPublish_stays h]
    · rw [exec_windowPublish, windowPublish_publishes hoff hm hw, thresholdReached_setCounter hoff]
      rfl
    · rw [exec_thresholdReached, thresholdReached_stays h]
    · rw [exec_thresholdReached, thresholdReached_raises hoff hz hp]
      rfl

end Sys2Proof.Proofs
end

section
/-! SUPPORT. STATUS with its checks, its clears and the four pages, and ATTENTION MASK. -/

namespace Sys2Proof.Proofs

open Sys2Proof Sys2Proof.Machine Sys2Proof.Laws

theorem exec_status (mask : BitVec 16) (quality page : Byte) (s : State) :
    exec (.status mask quality page) s = .next ((s.framed 4).takeStatus mask quality page) := rfl
theorem exec_attentionMask (enabled : BitVec 16) (s : State) :
    exec (.attentionMask enabled) s = .next ((s.framed 2).request (setForm enabled) (attentionMaskRule enabled)) := rfl

/-! ### STATUS (R175, R190) -/

theorem statusTaken_iff (mask : BitVec 16) (quality page : Byte) :
    statusTaken mask quality page = true ↔ mask &&& 0xFF00 = 0 ∧ (quality = 0 ∨ quality = 1) ∧ page.toNat ≤ 3 := by
  rw [statusTaken, Bool.and_eq_true, Bool.and_eq_true, beq_iff_eq, flagForm_iff, decide_eq_true_iff, and_assoc]

/-- R192: a flag byte that does not ask. -/
theorem flag_not_asked {b : Byte} (h : b = 0 ∨ b = 1) : (!(b == 1)) = decide (b = 0) := by
  rcases h with rfl | rfl <;> decide

/-- R175, R194: a STATUS taken answers the page of the state before the clears. -/
theorem takeStatus_taken {s t : State} {mask : BitVec 16} {quality page : Byte}
    (h : statusTaken mask quality page = true) (ht : t = s.statusClear mask (quality == 1)) :
    s.takeStatus mask quality page =
      { t with port := .ready (responseFrame .ok (statusHeader s t page ++ statusPage s page)) } := by
  subst ht
  rw [State.takeStatus, if_pos h]
  rfl

theorem takeStatus_refused {s : State} {mask : BitVec 16} {quality page : Byte}
    (h : mask &&& 0xFF00 ≠ 0 ∨ (quality ≠ 0 ∧ quality ≠ 1) ∨ 3 < page.toNat) :
    s.takeStatus mask quality page = { s with port := .ready (responseFrame .errArg []) } := by
  refine if_neg fun htaken => ?_
  obtain ⟨hmask, hquality, hpage⟩ := (statusTaken_iff mask quality page).mp htaken
  rcases h with h | ⟨h0, h1⟩ | h
  · exact h hmask
  · exact hquality.elim h0 h1
  · omega

/-! ### ATTENTION MASK (R176, R192) -/

theorem setForm_iff (v : BitVec 16) : setForm v = true ↔ v &&& 0xF000 = 0 := beq_iff_eq

theorem attentionMaskRule_eq (enabled : BitVec 16) (s : State) :
    attentionMaskRule enabled s =
      reply { s with attention := { s.attention with enabled := enabled } }
        (beBytes 2 enabled.toNat ++ beBytes 2 s.pendingSet.toNat) := rfl

/-! ### The pages (R194) -/

theorem statusPage_0 (s : State) : statusPage s 0 = statusPage0 s := rfl
theorem statusPage_1 (s : State) : statusPage s 1 = statusPage1 s := rfl
theorem statusPage_2 (s : State) : statusPage s 2 = statusPage2 s := rfl
theorem statusPage_3 (s : State) : statusPage s 3 = statusPage3 s := rfl

/-- R157, R194: the lane's number and the stack in transfer. -/
theorem transferBytes_eq (u : ShuttleState) :
    transferBytes u = match u with
      | .moving l n _ => [byteOf (l.val + 1), byteOf n.val]
      | _ => [0, 0xFF] := by
  cases u <;> rfl

/-- R157, R194: the head of the queue in one byte. -/
theorem headByte_eq (entries : List (Option StackNo)) :
    headByte entries = match entries with
      | [] => 0xFF
      | none :: _ => 0xFE
      | some n :: _ => byteOf n.val := by
  rcases entries with _ | ⟨_ | n, es⟩ <;> rfl

/-- Settles O53, by whether each request meets its checks, and page by page. -/
theorem statusClearsAndMaskEnables : Obligations.StatusClearsAndMaskEnables := by
  refine ⟨fun s mask quality page => ⟨fun hmask hquality hpage t ht => ?taken, fun h => ?refused⟩,
    fun s enabled hp => ⟨fun he => ?enables, fun he => ?badMask⟩,
    fun s => ⟨statusPage_0 s, statusPage_1 s, ?page2, statusPage_3 s⟩⟩
  case taken =>
    have hclear : t = (s.framed 4).statusClear mask (quality == 1) := by
      rw [ht, State.statusClear, flag_not_asked hquality]
      rfl
    rw [exec_status, takeStatus_taken ((statusTaken_iff _ _ _).mpr ⟨hmask, hquality, hpage⟩) hclear]
    rfl
  case refused => rw [exec_status, takeStatus_refused h]
  case enables =>
    rw [exec_attentionMask, (setForm_iff _).mpr he, request_replies (by exact hp) (attentionMaskRule_eq _ _)]
    rfl
  case badMask =>
    rw [exec_attentionMask, Bool.eq_false_iff.mpr (mt (setForm_iff _).mp he), request_form (by exact hp)]
  case page2 =>
    rw [statusPage_2, statusPage2, transferBytes_eq, headByte_eq]
    rfl

end Sys2Proof.Proofs
end

section
/-! SUPPORT. What a read makes of a record whose words hold at most one flipped bit: it reads clean, or its single-bit errors
are corrected. -/

namespace Sys2Proof.Proofs

open Sys2Proof Sys2Proof.Machine Sys2Proof.Laws

/-! ### A record no word of which is beyond the code (R179) -/

section
variable {s : State} {ref : RecordRef}

/-- R179: fewer than three flipped bits in each word leave no word beyond the code. -/
theorem beyondCode_nil (h : ∀ w, (s.wordFlips ref w).length < 3) : s.beyondCode ref = [] := by
  rw [State.beyondCode, List.filter_eq_nil_iff]
  intro f _ hf
  simp only [Bool.and_eq_true, decide_eq_true_eq] at hf
  exact absurd hf.2 (Nat.not_le.mpr (h f.word))

/-- R179: with no word beyond the code the record hands on what was written. -/
theorem misread_self (h : s.beyondCode ref = []) : s.misread ref = s := by
  unfold State.misread
  rw [h]
  rfl

/-- R179: a record is correctable when the code reports so of each of its words. -/
theorem uncorrectable_false (h : ∀ w, wordReport (s.wordFlips ref w) ≠ .uncorrectable) : s.uncorrectable ref = false := by
  rw [State.uncorrectable, List.any_eq_false]
  intro p hp
  obtain ⟨w, -, rfl⟩ := List.mem_map.mp hp
  rw [beq_iff_eq]
  exact h w

/-- R179: with no single-bit error nothing is counted, raised or written back. -/
theorem correct_of_no_error (hb : s.beyondCode ref = []) (he : s.singleErrors ref = [])
    (hf : s.flipsAfterRead ref = s.memory.flips) : s.correct ref = s := by
  simp only [State.correct, misread_self hb, he, hf, List.length_nil, satAdd_zero, if_true]

/-- R179: single-bit errors are counted, and RECORD_CORRECTED is raised. -/
theorem correct_of_errors (hb : s.beyondCode ref = []) (he : s.singleErrors ref ≠ []) :
    s.correct ref =
      { s with
          memory := { s.memory with
            flips := s.flipsAfterRead ref
            corrected := satAdd s.memory.corrected (s.singleErrors ref).length }
          attention := { s.attention with latched := s.attention.latched ||| Attention.recordCorrected.set } } := by
  simp only [State.correct, misread_self hb, if_neg (mt List.length_eq_zero_iff.mp he)]
  rfl

end

/-! ### A clean record (R179) -/

section
variable {s : State} {ref : RecordRef} (h : ∀ f ∈ s.memory.flips, f.ref ≠ ref)
include h

theorem wordFlips_of_clean_record (w : Nat) : s.wordFlips ref w = [] := by
  rw [State.wordFlips, List.map_eq_nil_iff, List.filter_eq_nil_iff]
  intro f hf
  simp [h f hf]

theorem uncorrectable_of_clean_record : s.uncorrectable ref = false :=
  uncorrectable_false fun w => by
    rw [wordFlips_of_clean_record h w]
    decide

theorem singleErrors_of_clean_record : s.singleErrors ref = [] := by
  rw [State.singleErrors, State.reports, List.filterMap_eq_nil_iff]
  intro p hp
  obtain ⟨w, -, rfl⟩ := List.mem_map.mp hp
  rw [wordFlips_of_clean_record h w]
  rfl

theorem flipsAfterRead_of_clean_record : s.flipsAfterRead ref = s.memory.flips := by
  have hkept : s.memory.flips.filter (fun f => f.ref != ref) = s.memory.flips :=
    List.filter_eq_self.mpr fun f hf => bne_iff_ne.mpr (h f hf)
  rw [State.flipsAfterRead, hkept, singleErrors_of_clean_record h, List.map_nil, ite_self, List.append_nil]

theorem correct_of_clean_record : s.correct ref = s :=
  correct_of_no_error (beyondCode_nil fun w => by simp [wordFlips_of_clean_record h w]) (singleErrors_of_clean_record h)
    (flipsAfterRead_of_clean_record h)

end

/-- Settles O8: a record that is damaged already is left alone, and in any other the code finds nothing to correct. -/
theorem readOfCleanRecordChangesNothing : Obligations.ReadOfCleanRecordChangesNothing := by
  intro s ref h
  cases hd : s.isDamaged ref with
  | true => exact readRecord_damaged ref s hd
  | false =>
    rw [readRecord_correctable ref s hd (uncorrectable_of_clean_record h)]
    exact correct_of_clean_record h

/-! ### One flipped bit (R179, R185) -/

/-- A search of the numbers below `n` that meets its one find at `w` gathers that find alone. -/
theorem filterMap_range_single {α : Type} {n w : Nat} {g : Nat → Option α} {a : α} (hw : w < n) (hfound : g w = some a)
    (hothers : ∀ v, v ≠ w → g v = none) : (List.range n).filterMap g = [a] := by
  induction n with
  | zero => exact absurd hw (Nat.not_lt_zero w)
  | succ n ih =>
    rw [List.range_succ, List.filterMap_append]
    by_cases hlast : w = n
    · subst hlast
      have hbefore : (List.range w).filterMap g = [] :=
        List.filterMap_eq_nil_iff.mpr fun v hv => hothers v (Nat.ne_of_lt (List.mem_range.mp hv))
      simp [hbefore, hfound]
    · simp [ih (by omega), hothers n (Ne.symm hlast)]

section
variable {s : State} {f : Flip} (hf : s.memory.flips = [f])
include hf

/-- The flipped bit stands in its own word, and in no other. -/
theorem wordFlips_single (w : Nat) : s.wordFlips f.ref w = if w = f.word then [f.bit] else [] := by
  by_cases hw : w = f.word
  · simp [State.wordFlips, hf, hw]
  · simp [State.wordFlips, hf, hw, Ne.symm hw]

theorem wordReport_single (w : Nat) :
    wordReport (s.wordFlips f.ref w) = if w = f.word then .single f.bit else .clean := by
  rw [wordFlips_single hf]
  split <;> rfl

theorem uncorrectable_single : s.uncorrectable f.ref = false :=
  uncorrectable_false fun w => by
    rw [wordReport_single hf]
    split <;> exact WordReport.noConfusion

theorem beyondCode_single : s.beyondCode f.ref = [] :=
  beyondCode_nil fun w => by
    rw [wordFlips_single hf]
    split <;> simp

/-- R179: the code names the flipped bit in its word, and no other error. -/
theorem singleErrors_single (hw : f.word < f.ref.words) : s.singleErrors f.ref = [(f.word, f.bit)] := by
  rw [State.singleErrors, State.reports, List.filterMap_map]
  exact filterMap_range_single hw (by simp [wordReport_single hf]) fun v hv => by simp [wordReport_single hf, hv]

/-- R179, R185: the corrected word is written back, unless PFAIL is asserted. -/
theorem flipsAfterRead_single (hw : f.word < f.ref.words) :
    s.flipsAfterRead f.ref = if s.pfail then [f] else [] := by
  have hothers : s.memory.flips.filter (fun g => g.ref != f.ref) = [] := by simp [hf]
  rw [State.flipsAfterRead, hothers, List.nil_append, singleErrors_single hf hw]
  rfl

end

/-- Settles O9: the record is handed on corrected, with the one error that the code names in it. -/
theorem singleBitErrorIsCorrectedAndCounted : Obligations.SingleBitErrorIsCorrectedAndCounted := by
  intro s f hf hw hd
  have herrors := singleErrors_single hf hw
  rw [readRecord_correctable f.ref s hd (uncorrectable_single hf),
    correct_of_errors (beyondCode_single hf) (by simp [herrors]), flipsAfterRead_single hf hw, herrors]
  rfl

end Sys2Proof.Proofs
end

section
/-! SUPPORT. No command writes the queue of commands: that the queue is as it was is a stable predicate, so every command
keeps it, and answers a next state. -/

namespace Sys2Proof.Proofs

open Sys2Proof Sys2Proof.Machine Sys2Proof.Laws

/-- The trim transmitter works in the register unit. -/
theorem queueTrim_pending (s : State) (m : TrimMessage) : (s.queueTrim m).pending = s.pending := by
  unfold State.queueTrim
  split
  · rfl
  · split <;> rfl

theorem messageSent_pending (s : State) : s.messageSent.pending = s.pending := by
  have hput : (s.putTrim 6).pending = s.pending := by rw [putTrim_frame]
  unfold State.messageSent
  split
  · rfl
  · split <;> exact hput

/-- Each update that a stable predicate has to survive leaves the queue of commands alone. -/
theorem pending_stable (q : List Instr) : Stable (fun s => s.pending = q) where
  same hv hs := (congrArg View.pending hv).trans hs
  parked hs _ := hs
  draining hs := hs
  rise hs _ := hs
  fall hs _ := hs
  seek hs := hs
  expect _ hs _ := hs
  unsync hs := hs
  settle _ _ hs := hs
  sample _ _ _ _ hs := hs
  queued m hs := (queueTrim_pending _ m).trans hs
  sent hs := (messageSent_pending _).trans hs
  keep _ _ hs := hs
  join _ _ _ hs := hs
  scrub _ _ hs := hs
  reset _ hs := hs

/-- Settles O2: that the queue is as it was is stable, and every command keeps a stable predicate. -/
theorem everyCommandAnswersAndKeepsTheQueue : Obligations.EveryCommandAnswersAndKeepsTheQueue :=
  fun c s => exec_keeps (pending_stable s.pending) c rfl

end Sys2Proof.Proofs
end

section
/-! SUPPORT. What a request that is not taken leaves: on a clean image each rule either answers OK or refuses before it has
changed anything, so such a request leaves the response and the bytes shifted out. -/

namespace Sys2Proof.Proofs

open Sys2Proof Sys2Proof.Machine Sys2Proof.Laws

/-- R190: what a rule gives for the state `s`: an answer OK, or a refusal that leaves `s` as it is. -/
def TakenOrRefused (s : State) (r : State × Status × List Byte) : Prop :=
  (∃ t payload, r = reply t payload) ∨ ∃ st, r = refuse s st

theorem takenOrRefused_reply {s t : State} {payload : List Byte} : TakenOrRefused s (reply t payload) :=
  .inl ⟨t, payload, rfl⟩

theorem takenOrRefused_refuse {s : State} {st : Status} : TakenOrRefused s (refuse s st) := .inr ⟨st, rfl⟩

/-- R190: a request that is not answered OK changes nothing but the response, when its rule takes or refuses it. -/
theorem request_not_taken {s : State} {form : Bool} {act : State → State × Status × List Byte}
    (hact : TakenOrRefused { s with port := .building } (act { s with port := .building }))
    (hport : ∀ payload, (s.request form act).port ≠ .ready (responseFrame .ok payload)) :
    s.request form act = { s with port := (s.request form act).port } := by
  obtain hp | hp := Bool.eq_false_or_eq_true s.pfail
  · rw [request_power hp]
  · cases form with
    | false => rw [request_form hp]
    | true =>
      obtain ⟨t, payload, htaken⟩ | ⟨st, hrefused⟩ := hact
      · exact absurd (congrArg State.port (request_replies hp htaken)) (hport payload)
      · rw [request_refuses hp hrefused]

/-! ### Rules that refuse before any read -/

section
variable (s : State)

theorem modeRun_takenOrRefused : TakenOrRefused s (modeRunRule s) := by
  unfold modeRunRule
  split
  · exact takenOrRefused_refuse
  · exact takenOrRefused_reply

theorem laneWrite_takenOrRefused (p : LanePayload) : TakenOrRefused s (laneWriteRule p s) := by
  unfold laneWriteRule
  split
  · split
    · exact takenOrRefused_reply
    · exact takenOrRefused_refuse
  · exact takenOrRefused_refuse

theorem laneRead_takenOrRefused (lane : Byte) : TakenOrRefused s (laneReadRule lane s) := by
  unfold laneReadRule
  split
  · exact takenOrRefused_refuse
  · exact takenOrRefused_reply

theorem laneClear_takenOrRefused (lane close : Byte) : TakenOrRefused s (laneClearRule lane close s) := by
  unfold laneClearRule
  split
  · exact takenOrRefused_refuse
  · split
    · exact takenOrRefused_reply
    · exact takenOrRefused_refuse

theorem geometryWrite_takenOrRefused (p : GeometryPayload) : TakenOrRefused s (geometryWriteRule p s) := by
  unfold geometryWriteRule
  split
  · exact takenOrRefused_refuse
  · split
    · exact takenOrRefused_refuse
    · split
      · split
        · exact takenOrRefused_refuse
        · exact takenOrRefused_reply
      · exact takenOrRefused_refuse

theorem stackRead_takenOrRefused (stack part : Byte) : TakenOrRefused s (stackReadRule stack part s) := by
  unfold stackReadRule
  split
  · exact takenOrRefused_refuse
  · split
    · exact takenOrRefused_reply
    · exact takenOrRefused_refuse

theorem stackList_takenOrRefused (selector start : Byte) : TakenOrRefused s (stackListRule selector start s) := by
  unfold stackListRule
  split
  · exact takenOrRefused_refuse
  · split
    · exact takenOrRefused_refuse
    · exact takenOrRefused_reply

theorem rowRead_takenOrRefused (tag part : Byte) : TakenOrRefused s (rowReadRule tag part s) := by
  unfold rowReadRule
  split
  · split
    · exact takenOrRefused_reply
    · exact takenOrRefused_reply
    · exact takenOrRefused_refuse
  · exact takenOrRefused_refuse

theorem rowReject_takenOrRefused (tag : Byte) (lanes : BitVec 16) : TakenOrRefused s (rowRejectRule tag lanes s) := by
  unfold rowRejectRule
  split
  · exact takenOrRefused_refuse
  · split
    · split
      · exact takenOrRefused_refuse
      · exact takenOrRefused_reply
    · exact takenOrRefused_refuse
    · exact takenOrRefused_refuse

theorem counterWrite_takenOrRefused (p : CounterPayload) : TakenOrRefused s (counterWriteRule p s) := by
  unfold counterWriteRule
  split
  · exact takenOrRefused_reply
  · exact takenOrRefused_refuse

theorem counterRead_takenOrRefused (counter : Byte) : TakenOrRefused s (counterReadRule counter s) := by
  unfold counterReadRule
  split
  · exact takenOrRefused_refuse
  · exact takenOrRefused_reply

theorem shuttleClear_takenOrRefused : TakenOrRefused s (shuttleClearRule s) := by
  unfold shuttleClearRule
  split
  · exact takenOrRefused_reply
  · exact takenOrRefused_refuse

end

/-! ### Rules that refuse by what a read finds -/

section
variable {s : State} (hc : s.clean)
include hc

theorem geometryRead_takenOrRefused : TakenOrRefused s (geometryReadRule s) := by
  unfold geometryReadRule
  rw [readRecord_clean _ s hc]
  dsimp only
  split
  · exact takenOrRefused_refuse
  · exact takenOrRefused_reply

theorem offsetNudge_takenOrRefused (delta : BitVec 16) : TakenOrRefused s (offsetNudgeRule delta s) := by
  unfold offsetNudgeRule
  rw [readRecord_clean _ s hc]
  dsimp only
  split
  · exact takenOrRefused_refuse
  · exact takenOrRefused_reply

/-- R101, R102: the checks of a JOB WRITE for an EMPTY or DAMAGED slot come before its write. -/
theorem jobWriteNew_takenOrRefused (p : JobPayload) (mode : SerialMode) (j : JobSlot) :
    TakenOrRefused s (jobWriteNew p mode j s) := by
  unfold jobWriteNew
  rw [readAll_clean _ s hc]
  dsimp only
  rw [readOpenStacks_clean hc]
  split
  · exact takenOrRefused_refuse
  · split
    · exact takenOrRefused_refuse
    · split
      · exact takenOrRefused_refuse
      · exact takenOrRefused_reply

/-- R101, R103: the checks of a JOB WRITE for an ACTIVE slot come before its write. -/
theorem jobWriteActive_takenOrRefused (p : JobPayload) (mode : SerialMode) (j : JobSlot) :
    TakenOrRefused s (jobWriteActive p mode j s) := by
  unfold jobWriteActive
  rw [readOpenStacks_clean hc]
  dsimp only
  split
  · exact takenOrRefused_refuse
  · split
    · exact takenOrRefused_refuse
    · split
      · exact takenOrRefused_refuse
      · exact takenOrRefused_reply

theorem jobWrite_takenOrRefused (p : JobPayload) : TakenOrRefused s (jobWriteRule p s) := by
  unfold jobWriteRule
  split
  · split
    · rw [readRecord_clean _ s hc]
      dsimp only
      split
      · exact takenOrRefused_refuse
      · exact jobWriteActive_takenOrRefused hc p _ _
      · exact jobWriteNew_takenOrRefused hc p _ _
    · exact takenOrRefused_refuse
  · exact takenOrRefused_refuse

theorem jobRead_takenOrRefused (slot : Byte) : TakenOrRefused s (jobReadRule slot s) := by
  unfold jobReadRule
  split
  · exact takenOrRefused_refuse
  · rw [readRecord_clean _ s hc]
    dsimp only
    split
    · exact takenOrRefused_refuse
    · exact takenOrRefused_reply

theorem jobEnd_takenOrRefused (slot : Byte) : TakenOrRefused s (jobEndRule slot s) := by
  unfold jobEndRule
  split
  · exact takenOrRefused_refuse
  · rw [readRecord_clean _ s hc]
    dsimp only
    split
    · exact takenOrRefused_reply
    · exact takenOrRefused_refuse

/-- R125: a seal of the lane's OPEN record that seals none has changed nothing. -/
theorem sealLane_unsealed {l : Lane} {reason : SealReason} {t : State} (h : s.sealLane l reason = (t, none)) : t = s := by
  cases hp : s.pfail with
  | true => exact congrArg Prod.fst (h.symm.trans (sealLaneWith_power readRecord l reason hp))
  | false =>
    cases ho : s.openOf l with
    | none => exact congrArg Prod.fst (h.symm.trans (sealLane_none ho reason))
    | some n => exact absurd (congrArg Prod.snd (h.symm.trans (sealLane_open hc hp ho reason))) nofun

theorem stackClose_takenOrRefused (lane : Byte) : TakenOrRefused s (stackCloseRule lane s) := by
  unfold stackCloseRule
  split
  · exact takenOrRefused_refuse
  · split
    · exact takenOrRefused_refuse
    · split
      · exact takenOrRefused_reply
      · next t hseal =>
        rw [sealLane_unsealed hc hseal]
        exact takenOrRefused_refuse

theorem stackTarget_takenOrRefused (stack : Byte) (value : BitVec 16) :
    TakenOrRefused s (stackTargetRule stack value s) := by
  unfold stackTargetRule
  split
  · exact takenOrRefused_refuse
  · rw [readRecord_clean _ s hc]
    dsimp only
    split
    · split
      · exact takenOrRefused_reply
      · exact takenOrRefused_refuse
    · exact takenOrRefused_refuse

theorem retireDelivered_takenOrRefused (n : StackNo) : TakenOrRefused s (retireDelivered n s) := by
  unfold retireDelivered
  rw [readRecord_clean _ s hc]
  dsimp only
  split
  · split
    · exact takenOrRefused_reply
    · exact takenOrRefused_refuse
  · exact takenOrRefused_refuse

omit hc in
theorem retireQuarantined_takenOrRefused (n : StackNo) : TakenOrRefused s (retireQuarantined n s) := by
  unfold retireQuarantined
  split
  · exact takenOrRefused_refuse
  · exact takenOrRefused_reply

theorem stackRetire_takenOrRefused (stack : Byte) : TakenOrRefused s (stackRetireRule stack s) := by
  unfold stackRetireRule
  split
  · exact takenOrRefused_refuse
  · split
    · exact retireDelivered_takenOrRefused hc _
    · exact retireQuarantined_takenOrRefused _
    · exact takenOrRefused_refuse

end

/-! ### Every request other than STATUS -/

/-- R189, R190: a command that is a request acts by a rule of its own after the transfer of its frame, and on a clean image
that rule takes or refuses it. -/
def ActsByRule (c : Instr) : Prop :=
  ∃ (form : Bool) (act : State → State × Status × List Byte),
    (∀ s, exec c s = .next ((s.framed (Instr.payloadLength c)).request form act)) ∧ ∀ s, s.clean → TakenOrRefused s (act s)

/-- R193: the requests other than STATUS, each with its rule. -/
theorem actsByRule_of_isRequest {c : Instr} (hc : Instr.isRequest c = true) : ActsByRule c := by
  cases c with
  | attentionMask enabled => exact ⟨_, _, fun _ => rfl, fun _ _ => takenOrRefused_reply⟩
  | modeRun => exact ⟨_, _, fun _ => rfl, fun s _ => modeRun_takenOrRefused s⟩
  | modePark => exact ⟨_, _, fun _ => rfl, fun _ _ => takenOrRefused_reply⟩
  | reset course => exact ⟨_, _, fun _ => rfl, fun _ _ => takenOrRefused_reply⟩
  | geometryWrite p => exact ⟨_, _, fun _ => rfl, fun s _ => geometryWrite_takenOrRefused s p⟩
  | geometryRead => exact ⟨_, _, fun _ => rfl, fun _ h => geometryRead_takenOrRefused h⟩
  | offsetNudge delta => exact ⟨_, _, fun _ => rfl, fun _ h => offsetNudge_takenOrRefused h delta⟩
  | jobWrite p => exact ⟨_, _, fun _ => rfl, fun _ h => jobWrite_takenOrRefused h p⟩
  | jobRead slot => exact ⟨_, _, fun _ => rfl, fun _ h => jobRead_takenOrRefused h slot⟩
  | jobEnd slot => exact ⟨_, _, fun _ => rfl, fun _ h => jobEnd_takenOrRefused h slot⟩
  | laneWrite p => exact ⟨_, _, fun _ => rfl, fun s _ => laneWrite_takenOrRefused s p⟩
  | laneRead lane => exact ⟨_, _, fun _ => rfl, fun s _ => laneRead_takenOrRefused s lane⟩
  | laneClear lane close => exact ⟨_, _, fun _ => rfl, fun s _ => laneClear_takenOrRefused s lane close⟩
  | stackRead stack part => exact ⟨_, _, fun _ => rfl, fun s _ => stackRead_takenOrRefused s stack part⟩
  | stackList selector start => exact ⟨_, _, fun _ => rfl, fun s _ => stackList_takenOrRefused s selector start⟩
  | stackClose lane => exact ⟨_, _, fun _ => rfl, fun _ h => stackClose_takenOrRefused h lane⟩
  | stackTarget stack value => exact ⟨_, _, fun _ => rfl, fun _ h => stackTarget_takenOrRefused h stack value⟩
  | stackRetire stack => exact ⟨_, _, fun _ => rfl, fun _ h => stackRetire_takenOrRefused h stack⟩
  | stackRetireAll stack => exact ⟨_, _, fun _ => rfl, fun _ _ => takenOrRefused_reply⟩
  | rowRead tag part => exact ⟨_, _, fun _ => rfl, fun s _ => rowRead_takenOrRefused s tag part⟩
  | rowReject tag lanes => exact ⟨_, _, fun _ => rfl, fun s _ => rowReject_takenOrRefused s tag lanes⟩
  | counterWrite p => exact ⟨_, _, fun _ => rfl, fun s _ => counterWrite_takenOrRefused s p⟩
  | counterRead counter => exact ⟨_, _, fun _ => rfl, fun s _ => counterRead_takenOrRefused s counter⟩
  | shuttleClear => exact ⟨_, _, fun _ => rfl, fun s _ => shuttleClear_takenOrRefused s⟩
  | _ => exact absurd hc Bool.false_ne_true

/-- Settles O7: every request acts by a rule that takes or refuses it, and the port judges PFAIL before the rule. -/
theorem requestNotTakenChangesOnlyTheResponse : Obligations.RequestNotTakenChangesOnlyTheResponse := by
  refine ⟨fun c s hrequest hp => ?power, fun c s t hrequest hclean hexec hport => ?notTaken⟩
  case power =>
    obtain ⟨form, act, hexec, -⟩ := actsByRule_of_isRequest hrequest
    rw [hexec, request_power (by exact hp)]
  case notTaken =>
    obtain ⟨form, act, hacts, hrule⟩ := actsByRule_of_isRequest hrequest
    obtain rfl : (s.framed (Instr.payloadLength c)).request form act = t :=
      Host.Outcome.next.inj ((hacts s).symm.trans hexec)
    exact request_not_taken (hrule _ hclean) hport

end Sys2Proof.Proofs
end

section
/-! SUPPORT. F16, the settle count, the trim queue, the partial message and the scrub position stay in their ranges: being in
range is a stable predicate, so every operation keeps it. -/

namespace Sys2Proof.Proofs

open Sys2Proof Sys2Proof.Machine Sys2Proof.Laws

/-! ### The range of F16 (R65, R67) -/

/-- R67: a sample within ±32,767 moves F16 towards its sixteenfold and not past it, so F16 stays within ±524,272. -/
theorem filterNext_bounds {f e : Int} (k : Nat) (he : -32767 ≤ e ∧ e ≤ 32767) (hf : -524272 ≤ f ∧ f ≤ 524272) :
    -524272 ≤ filterNext f e k ∧ filterNext f e k ≤ 524272 := by
  obtain ⟨helow, hehigh⟩ := he
  obtain ⟨hflow, hfhigh⟩ := hf
  rcases Int.lt_or_le (16 * e - f) 0 with hdown | hup
  · have hle := rounded_le (Nat.two_pow_pos k) (f - 16 * e).toNat
    rw [filterNext_down hdown]
    generalize ((f - 16 * e).toNat + 2 ^ k / 2) / 2 ^ k = d at hle
    omega
  · have hle := rounded_le (Nat.two_pow_pos k) (16 * e - f).toNat
    rw [filterNext_up hup]
    generalize ((16 * e - f).toNat + 2 ^ k / 2) / 2 ^ k = d at hle
    omega

/-! ### The trim queue (R71) -/

/-- A trim queue of at most four that waits only behind a message being sent. -/
def TrimQueue (r : RegisterUnit) : Prop := r.waiting.length ≤ 4 ∧ (r.sending = none → r.waiting = [])

/-- R71: a message queued in IDLE is sent, and in SENDING it waits, in the place of the oldest of four. -/
theorem trimQueue_queueTrim {s : State} (m : TrimMessage) (hs : TrimQueue s.register) :
    TrimQueue (s.queueTrim m).register := by
  unfold State.queueTrim
  split
  next hidle => exact ⟨hs.1, nofun⟩
  next now hnow =>
    have hsending : s.register.sending ≠ none := fun hn => nomatch hnow.symm.trans hn
    split
    next hroom =>
      refine ⟨?_, fun hn => absurd hn hsending⟩
      show (s.register.waiting ++ [m]).length ≤ 4
      rw [List.length_append, List.length_singleton]
      omega
    next hfull =>
      refine ⟨?_, fun hn => absurd hn hsending⟩
      have hlen : s.register.waiting.length ≤ 4 := hs.1
      show (s.register.waiting.tail ++ [m]).length ≤ 4
      rw [List.length_append, List.length_tail, List.length_singleton]
      omega

/-- R71: at the end of a message the oldest that waits is taken, and with none waiting the transmitter enters IDLE. -/
theorem trimQueue_messageSent {s : State} (hs : TrimQueue s.register) : TrimQueue s.messageSent.register := by
  obtain ⟨hlen, -⟩ := id hs
  unfold State.messageSent
  split
  · exact hs
  · split
    next hw => exact ⟨by rw [putTrim_frame]; exact hlen, fun _ => by rw [putTrim_frame]; exact hw⟩
    next m ms hw =>
      rw [hw, List.length_cons] at hlen
      exact ⟨Nat.le_of_succ_le hlen, nofun⟩

/-- The trim transmitter leaves F16 and the settle count alone, and whatever lies outside the register unit. -/
theorem queueTrim_others (s : State) (m : TrimMessage) :
    (s.queueTrim m).register.f16 = s.register.f16 ∧ (s.queueTrim m).register.settle = s.register.settle ∧
      (s.queueTrim m).verdict = s.verdict ∧ (s.queueTrim m).memory = s.memory := by
  unfold State.queueTrim
  split
  · exact ⟨rfl, rfl, rfl, rfl⟩
  · split <;> exact ⟨rfl, rfl, rfl, rfl⟩

theorem messageSent_others (s : State) :
    s.messageSent.register.f16 = s.register.f16 ∧ s.messageSent.register.settle = s.register.settle ∧
      s.messageSent.verdict = s.verdict ∧ s.messageSent.memory = s.memory := by
  unfold State.messageSent
  rw [putTrim_frame]
  split
  · exact ⟨rfl, rfl, rfl, rfl⟩
  · split <;> exact ⟨rfl, rfl, rfl, rfl⟩

/-! ### The partial message (R43) -/

/-- R43: the first six characters of a candidate are kept and no more. -/
theorem join_kept_length (v : VerdictReceiver) (c : Option Byte) (hv : v.kept.length ≤ 6) :
    (v.join c).kept.length ≤ 6 := by
  show (if v.kept.length < 6 then v.kept ++ [c] else v.kept).length ≤ 6
  split
  next hroom => rw [List.length_append, List.length_singleton]; omega
  next => exact hv

/-! ### The ranges -/

/-- The ranges look at the view alone. -/
theorem inRanges_congr {s t : State} (hv : view t = view s) (hs : s.inRanges) : t.inRanges where
  f16 := by rw [show t.register.f16 = s.register.f16 from congrArg View.f16 hv]; exact hs.f16
  settle := by rw [show t.register.settle = s.register.settle from congrArg View.settle hv]; exact hs.settle
  waiting := by rw [show t.register.waiting = s.register.waiting from congrArg View.waiting hv]; exact hs.waiting
  sending := by
    rw [show t.register.waiting = s.register.waiting from congrArg View.waiting hv,
      show t.register.sending = s.register.sending from congrArg View.sending hv]
    exact hs.sending
  kept := by rw [show t.verdict.kept = s.verdict.kept from congrArg View.kept hv]; exact hs.kept
  scrub := by rw [show t.memory.scrub = s.memory.scrub from congrArg View.scrub hv]; exact hs.scrub

/-- Being in range with the trim transmitter's part replaced. -/
theorem inRanges_of_trimQueue {s t : State} (hs : s.inRanges) (hq : TrimQueue t.register)
    (ho : t.register.f16 = s.register.f16 ∧ t.register.settle = s.register.settle ∧ t.verdict = s.verdict ∧
      t.memory = s.memory) : t.inRanges := by
  obtain ⟨hf, hk, hv, hm⟩ := ho
  exact ⟨hf ▸ hs.f16, hk ▸ hs.settle, hq.1, hq.2, hv ▸ hs.kept, hm ▸ hs.scrub⟩

theorem inRanges_trimQueue {s : State} (hs : s.inRanges) : TrimQueue s.register := ⟨hs.waiting, hs.sending⟩

/-- R43, R67, R71, R72, R184: each update of the view that an operation makes keeps the ranges. -/
theorem inRanges_stable : Stable State.inRanges where
  same := inRanges_congr
  parked hs _ := { hs with }
  draining hs := { hs with }
  rise hs _ := { hs with }
  fall hs _ := { hs with }
  seek hs := { hs with }
  expect _ hs _ := { hs with }
  unsync hs := { hs with }
  settle _ hk hs := { hs with settle := hk }
  sample _ k hlow hhigh hs := { hs with f16 := filterNext_bounds k ⟨hlow, hhigh⟩ hs.f16 }
  queued m hs := inRanges_of_trimQueue hs (trimQueue_queueTrim m (inRanges_trimQueue hs)) (queueTrim_others _ m)
  sent hs := inRanges_of_trimQueue hs (trimQueue_messageSent (inRanges_trimQueue hs)) (messageSent_others _)
  keep _ hv hs := { hs with kept := hv }
  join v c hv hs := { hs with kept := join_kept_length v c (hv ▸ hs.kept) }
  scrub _ hk hs := { hs with scrub := hk }
  reset {s} cold hs :=
    { f16 := by
        have hf := hs.f16
        show -524272 ≤ (if cold then 0 else s.register.f16) ∧ (if cold then 0 else s.register.f16) ≤ 524272
        split <;> omega
      settle := Nat.zero_le 32
      waiting := Nat.zero_le 4
      sending := fun _ => rfl
      kept := Nat.zero_le 6
      scrub := Nat.zero_le 96 }

/-- Settles O4: being in range is stable, and no stable predicate is lost in a step. -/
theorem everyStepKeepsRanges : Obligations.EveryStepKeepsRanges := by
  intro s t hs hstep
  obtain ⟨u, hu, hrange⟩ := step_keeps inRanges_stable (fun _ _ ht => { ht with }) hs
  obtain rfl : u = t := Host.Outcome.next.inj (hu.symm.trans hstep)
  exact hrange

end Sys2Proof.Proofs
end

section
/-! SUPPORT. The verdict receiver: a character joins the candidate, an idle gap judges it, and a message is merged, LATE or
UNKNOWN by what its tag resolves to; and ROW REJECT. -/

namespace Sys2Proof.Proofs

open Sys2Proof Sys2Proof.Machine Sys2Proof.Laws

theorem exec_verdictCharacter (c : Option Byte) (s : State) :
    exec (.verdictCharacter c) s = .next (s.takeCharacter c) := rfl

theorem exec_idleGap (s : State) : exec .idleGap s = .next s.takeIdleGap := rfl

theorem exec_rowReject (tag : Byte) (lanes : BitVec 16) (s : State) :
    exec (.rowReject tag lanes) s = .next ((s.framed 3).request (setForm lanes) (rowRejectRule tag lanes)) := rfl

/-! ### Characters (R43) -/

/-- R43: an eight-bit count stops at 255. -/
theorem satInc_byte (c : BitVec 8) : satInc c = if c = 255 then 255 else c + 1 := by
  by_cases h : c = 255
  · exact (if_pos h).trans (h.trans (if_pos h).symm)
  · exact (if_neg h).trans (if_neg h).symm

theorem takeCharacter_hunt {s : State} (c : Option Byte) (h : s.verdict.state = .hunt) : s.takeCharacter c = s := by
  rw [State.takeCharacter, h]

theorem takeCharacter_idle {s : State} (c : Option Byte) (h : s.verdict.state = .idle) :
    s.takeCharacter c = s.setVerdict ((s.verdict.empty .receiving).join c) := by
  rw [State.takeCharacter, h]

theorem takeCharacter_receiving {s : State} (c : Option Byte) (h : s.verdict.state = .receiving) :
    s.takeCharacter c = s.setVerdict (s.verdict.join c) := by
  rw [State.takeCharacter, h]

/-- Settles O24, by the state of the receiver. -/
theorem verdictCharacterJoinsTheCandidate : Obligations.VerdictCharacterJoinsTheCandidate := by
  refine fun s c => ⟨fun h => ?hunt, fun h => ?idle, fun h => ?receiving⟩
  case hunt => rw [exec_verdictCharacter, takeCharacter_hunt c h]
  case idle =>
    rw [exec_verdictCharacter, takeCharacter_idle c h]
    rfl
  case receiving =>
    rw [exec_verdictCharacter, takeCharacter_receiving c h, VerdictReceiver.join, satInc_byte]
    rfl

/-! ### The judging of a candidate (R44, R45) -/

/-- R44: an accepted candidate is exactly six sound characters, from the sync value to a correct check byte. -/
theorem acceptedMessage_iff (count : BitVec 8) (spoiled : Bool) (kept : List (Option Byte)) (tag : Byte)
    (codes : List Byte) :
    acceptedMessage count spoiled kept = some (tag, codes) ↔
      (count = 6 ∧ spoiled = false) ∧ ∃ b2 b3 b4 : Byte, codes = [b2, b3, b4] ∧
        kept = [some 0xC3, some tag, some b2, some b3, some b4, some (crc8 [0xC3, tag, b2, b3, b4])] := by
  unfold acceptedMessage
  constructor
  · intro h
    split at h
    next hsound =>
      split at h
      next b0 b1 b2 b3 b4 b5 =>
        split at h
        next hcheck =>
          obtain ⟨rfl, rfl⟩ := hcheck
          obtain ⟨rfl, rfl⟩ := Prod.mk.inj (Option.some.inj h)
          exact ⟨hsound, b2, b3, b4, rfl, rfl⟩
        next => exact nomatch h
      next => exact nomatch h
    next => exact nomatch h
  · rintro ⟨hsound, b2, b3, b4, rfl, rfl⟩
    rw [if_pos hsound]
    exact if_pos ⟨rfl, rfl⟩

theorem takeIdleGap_hunt {s : State} (h : s.verdict.state = .hunt) :
    s.takeIdleGap = s.setVerdict { s.verdict with state := .idle } := by
  rw [State.takeIdleGap, h]

theorem takeIdleGap_idle {s : State} (h : s.verdict.state = .idle) : s.takeIdleGap = s := by
  rw [State.takeIdleGap, h]

/-- R44: an idle gap drops a candidate that is not accepted. -/
theorem takeIdleGap_malformed {s : State} (h : s.verdict.state = .receiving)
    (hm : acceptedMessage s.verdict.count s.verdict.spoiled s.verdict.kept = none) :
    s.takeIdleGap = (s.setVerdict (s.verdict.empty .idle)).malformedMessage := by
  rw [State.takeIdleGap, h]
  show s.judge = _
  rw [State.judge, hm]

/-- R45: an idle gap takes an accepted candidate as a message, with the partial message emptied. -/
theorem takeIdleGap_accepted {s : State} {tag b2 b3 b4 : Byte} (h : s.verdict.state = .receiving)
    (hcount : s.verdict.count = 6) (hsound : s.verdict.spoiled = false)
    (hkept : s.verdict.kept =
      [some 0xC3, some tag, some b2, some b3, some b4, some (crc8 [0xC3, tag, b2, b3, b4])]) :
    s.takeIdleGap = (s.setVerdict (s.verdict.empty .idle)).takeMessage tag [b2, b3, b4] := by
  have hm : acceptedMessage s.verdict.count s.verdict.spoiled s.verdict.kept = some (tag, [b2, b3, b4]) :=
    (acceptedMessage_iff _ _ _ _ _).mpr ⟨⟨hcount, hsound⟩, b2, b3, b4, rfl, hkept⟩
  rw [State.takeIdleGap, h]
  show s.judge = _
  rw [State.judge, hm]

/-- Settles O25, by the state of the receiver. -/
theorem idleGapDropsMalformedCandidate : Obligations.IdleGapDropsMalformedCandidate := by
  refine fun s => ⟨fun h => ?hunt, fun h => ?idle, fun h hbad => ?receiving⟩
  case hunt =>
    rw [exec_idleGap, takeIdleGap_hunt h]
    rfl
  case idle => rw [exec_idleGap, takeIdleGap_idle h]
  case receiving =>
    have hm : acceptedMessage s.verdict.count s.verdict.spoiled s.verdict.kept = none := by
      refine Option.eq_none_iff_forall_ne_some.mpr ?_
      rintro ⟨tag, codes⟩ hsome
      obtain ⟨⟨hcount, hsound⟩, b2, b3, b4, -, hkept⟩ := (acceptedMessage_iff _ _ _ _ _).mp hsome
      exact hbad ⟨hcount, hsound, tag, b2, b3, b4, hkept⟩
    rw [exec_idleGap, takeIdleGap_malformed h hm]
    rfl

/-! ### What a tag resolves to (R35) -/

/-- R35: a tag resolves to the row in its slot that carries it and is not retired. -/
theorem resolveTag_openRow {s : State} {tag : Byte} {r : RowRecord} (hr : s.rowAt (Fin.ofNat 128 tag.toNat) = some r)
    (ht : r.number.setWidth 8 = tag) (hp : r.phase ≠ .retired) :
    s.resolveTag tag = .openRow (Fin.ofNat 128 tag.toNat) r := by
  have htag : tagOf r.number = tag := ht
  unfold State.resolveTag
  rw [hr]
  dsimp only
  rw [if_pos htag, if_neg hp]

/-- R35: a tag resolves to no open row when a row in its slot that carries it is retired. -/
theorem resolveTag_notOpen {s : State} {tag : Byte}
    (h : ∀ r, s.rowAt (Fin.ofNat 128 tag.toNat) = some r → r.number.setWidth 8 = tag → r.phase = .retired)
    (i : RingSlot) (r : RowRecord) : s.resolveTag tag ≠ .openRow i r := by
  unfold State.resolveTag
  split
  next => exact nofun
  next q hq =>
    split
    next ht =>
      have hp : q.phase = .retired := h q hq ht
      rw [if_pos hp]
      exact nofun
    next => exact nofun

/-- R47, R51: a message that resolves to no open row is UNKNOWN. -/
theorem takeMessage_unknown {s : State} {tag : Byte} (codes : List Byte)
    (h : ∀ i r, s.resolveTag tag ≠ .openRow i r) : s.takeMessage tag codes = s.unknownMessage := by
  unfold State.takeMessage
  split
  next i r hres => exact absurd hres (h i r)
  next => rfl
  next => rfl

/-- R47, R48: a message for an undecided open row is merged. -/
theorem takeMessage_merged {s : State} {tag : Byte} (codes : List Byte) {i : RingSlot} {r : RowRecord}
    (h : s.resolveTag tag = .openRow i r) (hp : r.phase ≠ .decided) :
    s.takeMessage tag codes = s.mergeMessage i r codes := by
  unfold State.takeMessage
  rw [h]
  exact if_neg hp

/-- R47, R49: a message for a DECIDED row is LATE. -/
theorem takeMessage_late {s : State} {tag : Byte} (codes : List Byte) {i : RingSlot} {r : RowRecord}
    (h : s.resolveTag tag = .openRow i r) (hp : r.phase = .decided) :
    s.takeMessage tag codes = s.lateMessage r codes := by
  unfold State.takeMessage
  rw [h]
  exact if_pos hp

/-! ### The rank merge (R46, R48, R196) -/

/-- R196: the byte of a verdict message in which a lane's code stands. -/
theorem codes_getD {b2 b3 b4 byte : Byte} {l : Lane} (hlow : l.val < 4 → byte = b2)
    (hmid : 4 ≤ l.val → l.val < 8 → byte = b3) (hhigh : 8 ≤ l.val → byte = b4) :
    [b2, b3, b4].getD (l.val / 4) 0 = byte := by
  have hl := l.isLt
  rcases Nat.lt_or_ge l.val 4 with h4 | h4
  · rw [show l.val / 4 = 0 by omega, hlow h4]
    rfl
  · rcases Nat.lt_or_ge l.val 8 with h8 | h8
    · rw [show l.val / 4 = 1 by omega, hmid h4 h8]
      rfl
    · rw [show l.val / 4 = 2 by omega, hhigh h8]
      rfl

/-- R196: a lane's code is two bits of its byte. -/
theorem laneCode_bit (codes : List Byte) (l : Lane) {k : Nat} (hk : k < 2) :
    (laneCode codes l).getLsbD k = (codes.getD (l.val / 4) 0).getLsbD (2 * (l.val % 4) + k) := by
  simp only [laneCode, BitVec.getLsbD_setWidth, BitVec.getLsbD_ushiftRight, hk, decide_true, Bool.true_and]

/-- R46: the four lane codes are the codes of the four verdicts. -/
theorem code_ofCode : ∀ c : BitVec 2, (Camera.ofCode c).code = c.toNat := by decide

/-- R46: the merge keeps the verdict of higher rank. -/
theorem code_merge (present new : Camera) : (present.merge new).code = max present.code new.code := by
  unfold Camera.merge
  split
  next h => exact (Nat.max_eq_right (Nat.le_of_lt h)).symm
  next h => exact (Nat.max_eq_left (Nat.le_of_not_lt h)).symm

theorem mergeCodes_lane (r : RowRecord) (codes : List Byte) (l : Lane) :
    (r.mergeCodes codes).lanes[l] = r.lanes[l].mergeCode (laneCode codes l) := vtab_get _ l

/-- Settles O26: the layout of the codes, and the two fates of a message for a row that is not DECIDED. -/
theorem idleGapMergesOrDeclaresUnknown : Obligations.IdleGapMergesOrDeclaresUnknown := by
  refine ⟨fun b2 b3 b4 byte l hlow hmid hhigh => ?layout, rfl,
    fun s tag b2 b3 b4 hrec hcount hsound hkept => ⟨fun r hr ht hp => ?merged, fun hret => ?unknown⟩⟩
  case layout =>
    rw [laneCode_bit _ _ (by decide), laneCode_bit _ _ (by decide), codes_getD hlow hmid hhigh]
    exact ⟨rfl, rfl⟩
  case merged =>
    have hopen : r.phase ≠ .retired := by rcases hp with h | h <;> rw [h] <;> exact nofun
    have hundecided : r.phase ≠ .decided := by rcases hp with h | h <;> rw [h] <;> exact nofun
    refine ⟨r.mergeCodes [b2, b3, b4], ?_, rfl, fun l => ?_⟩
    · rw [exec_idleGap, takeIdleGap_accepted hrec hcount hsound hkept,
        takeMessage_merged _ (resolveTag_openRow (by exact hr) ht hopen) hundecided]
      rfl
    · rw [mergeCodes_lane]
      refine ⟨rfl, ?_⟩
      show (r.lanes[l].camera.merge (Camera.ofCode _)).code = _
      rw [code_merge, code_ofCode]
  case unknown =>
    rw [exec_idleGap, takeIdleGap_accepted hrec hcount hsound hkept,
      takeMessage_unknown _ (resolveTag_notOpen (by exact hret))]
    rfl

/-! ### Late messages (R49, R50, R58) -/

/-- R50: a lane of a late message rejects a label that it gated to a stack, and the stack stands in that lane. -/
def LateReject (r : RowRecord) (codes : List Byte) (rec : StackRecord) (n : StackNo) (l : Lane) : Prop :=
  r.lanes[l].disposition = .stack n ∧ 2 ≤ (laneCode codes l).toNat ∧ rec.lane = l.val + 1

/-- R50, R58: a record that late rejects of some of the lanes mark. -/
def LateMarked (s : State) (r : RowRecord) (codes : List Byte) (ls : List Lane) (rec : StackRecord) (n : StackNo) :
    Prop :=
  s.pfail = false ∧ rec.state.markable = true ∧ ∃ l ∈ ls, LateReject r codes rec n l

/-- R50: the states that R50 names. -/
theorem markable_iff (st : StackState) : st.markable = true ↔ st ≠ .free ∧ st ≠ .quarantined .damaged := by
  unfold StackState.markable
  split
  next => exact ⟨nofun, fun h => absurd rfl h.1⟩
  next => exact ⟨nofun, fun h => absurd rfl h.2⟩
  next hf hq => exact ⟨fun _ => ⟨hf, hq⟩, fun _ => rfl⟩

/-- The records with some of them replaced. -/
abbrev withStacks (s : State) (recs : Vector StackRecord 64) : State :=
  { s with memory := { s.memory with stackRecs := recs } }

/-- R50: one lane of a late message, on a clean image: the record it rejects is marked, and every other one stays. -/
theorem lateLane_clean (r : RowRecord) (codes : List Byte) {s : State} (l : Lane) (hc : s.clean)
    (hd : s.memory.damagedSet = []) :
    ∃ recs, State.lateLane r codes s l = withStacks s recs ∧ ∀ n : StackNo,
      (LateMarked s r codes [l] s.memory.stackRecs[n] n → recs[n] = s.memory.stackRecs[n].lateMark) ∧
        (¬LateMarked s r codes [l] s.memory.stackRecs[n] n → recs[n] = s.memory.stackRecs[n]) := by
  have hstays : (∀ n : StackNo, ¬LateMarked s r codes [l] s.memory.stackRecs[n] n) → ∀ n : StackNo,
      (LateMarked s r codes [l] s.memory.stackRecs[n] n →
          s.memory.stackRecs[n] = s.memory.stackRecs[n].lateMark) ∧
        (¬LateMarked s r codes [l] s.memory.stackRecs[n] n → s.memory.stackRecs[n] = s.memory.stackRecs[n]) :=
    fun hno n => ⟨fun h => absurd h (hno n), fun _ => rfl⟩
  unfold State.lateLane
  split
  next m hdisp =>
    have hm {n : StackNo} (h : LateMarked s r codes [l] s.memory.stackRecs[n] n) :
        n = m ∧ s.pfail = false ∧ s.memory.stackRecs[n].state.markable = true ∧ 2 ≤ (laneCode codes l).toNat ∧
          s.memory.stackRecs[n].lane = laneNumber l := by
      obtain ⟨hpower, hmark, l', hl', hstack, hcode, hlane⟩ := h
      obtain rfl := List.mem_singleton.mp hl'
      exact ⟨Disposition.stack.inj (hstack.symm.trans hdisp), hpower, hmark, hcode, hlane⟩
    split
    next hreject =>
      rw [readRecord_clean _ s hc]
      dsimp only
      rw [stack_image s m hd]
      split
      next hmark =>
        refine ⟨_, rfl, fun n => ?_⟩
        rw [vset_get]
        split
        next hn =>
          subst hn
          exact ⟨fun _ => rfl, fun h =>
            absurd ⟨hreject.1, hmark.1, l, List.mem_singleton_self l, hdisp, hreject.2, hmark.2⟩ h⟩
        next hn => exact ⟨fun h => absurd (hm h).1.symm hn, fun _ => rfl⟩
      next hmark =>
        refine ⟨s.memory.stackRecs, rfl, hstays fun n h => ?_⟩
        obtain ⟨rfl, -, hlive, -, hlane⟩ := hm h
        exact hmark ⟨hlive, hlane⟩
    next hreject =>
      refine ⟨s.memory.stackRecs, rfl, hstays fun n h => ?_⟩
      obtain ⟨-, hpower, -, hcode, -⟩ := hm h
      exact hreject ⟨hpower, hcode⟩
  next hdisp =>
    refine ⟨s.memory.stackRecs, rfl, hstays fun n h => ?_⟩
    obtain ⟨-, -, l', hl', hstack, -⟩ := h
    obtain rfl := List.mem_singleton.mp hl'
    exact hdisp n hstack

/-- R50, R58: the lanes of a late message, one after the other. A record stands in one lane, so it is marked once. -/
theorem lateLanes_clean (r : RowRecord) (codes : List Byte) {ls : List Lane} (hls : ls.Nodup) {s : State}
    (hc : s.clean) (hd : s.memory.damagedSet = []) :
    ∃ recs, ls.foldl (State.lateLane r codes) s = withStacks s recs ∧ ∀ n : StackNo,
      (LateMarked s r codes ls s.memory.stackRecs[n] n → recs[n] = s.memory.stackRecs[n].lateMark) ∧
        (¬LateMarked s r codes ls s.memory.stackRecs[n] n → recs[n] = s.memory.stackRecs[n]) := by
  induction ls generalizing s with
  | nil =>
    refine ⟨s.memory.stackRecs, rfl, fun n => ⟨?_, fun _ => rfl⟩⟩
    rintro ⟨-, -, l, hl, -⟩
    exact nomatch hl
  | cons l ls ih =>
    obtain ⟨hfresh, hrest⟩ := List.nodup_cons.mp hls
    obtain ⟨first, hstep, hfirst⟩ := lateLane_clean r codes l hc hd
    obtain ⟨recs, hfold, hrecs⟩ := ih (s := withStacks s first) hrest hc hd
    refine ⟨recs, by rw [List.foldl_cons, hstep, hfold], fun n => ?_⟩
    obtain ⟨hmarked, hkept⟩ := hrecs n
    change LateMarked s r codes ls first[n] n → recs[n] = first[n].lateMark at hmarked
    change ¬LateMarked s r codes ls first[n] n → recs[n] = first[n] at hkept
    by_cases hnow : LateMarked s r codes [l] s.memory.stackRecs[n] n
    · rw [(hfirst n).1 hnow] at hmarked hkept
      have hlater : ¬LateMarked s r codes ls s.memory.stackRecs[n].lateMark n := by
        rintro ⟨-, -, l', hl', -, -, hlane'⟩
        obtain ⟨-, -, l'', hl'', -, -, hlane⟩ := hnow
        obtain rfl := List.mem_singleton.mp hl''
        have hsame : l'' = l' := Fin.ext (Nat.succ.inj (hlane.symm.trans hlane'))
        exact hfresh (hsame ▸ hl')
      refine ⟨fun _ => hkept hlater, fun hno => absurd ?_ hno⟩
      obtain ⟨hpower, hmark, l', hl', hrej⟩ := hnow
      exact ⟨hpower, hmark, l', List.mem_cons.mpr (.inl (List.mem_singleton.mp hl')), hrej⟩
    · rw [(hfirst n).2 hnow] at hmarked hkept
      have hiff : LateMarked s r codes (l :: ls) s.memory.stackRecs[n] n ↔
          LateMarked s r codes ls s.memory.stackRecs[n] n := by
        constructor
        · rintro ⟨hpower, hmark, l', hl', hrej⟩
          rcases List.mem_cons.mp hl' with rfl | hl'
          · exact absurd ⟨hpower, hmark, l', List.mem_singleton_self l', hrej⟩ hnow
          · exact ⟨hpower, hmark, l', hl', hrej⟩
        · rintro ⟨hpower, hmark, l', hl', hrej⟩
          exact ⟨hpower, hmark, l', List.mem_cons_of_mem l hl', hrej⟩
      rw [hiff]
      exact ⟨hmarked, hkept⟩

/-- Settles O27: the lanes of the row, in ascending order, on the state with the message counted. -/
theorem lateMessageMarksRejectedStacks : Obligations.LateMessageMarksRejectedStacks := by
  intro s tag b2 b3 b4 r hrec hcount hsound hkept hr ht hp hc hd
  have hopen : r.phase ≠ .retired := by rw [hp]; exact nofun
  have hexec : exec .idleGap s = .next ((s.setVerdict (s.verdict.empty .idle)).lateMessage r [b2, b3, b4]) := by
    rw [exec_idleGap, takeIdleGap_accepted hrec hcount hsound hkept,
      takeMessage_late _ (resolveTag_openRow (by exact hr) ht hopen) hp]
  obtain ⟨recs, hfold, hrecs⟩ := lateLanes_clean r [b2, b3, b4] (List.nodup_finRange 12)
    (s := ((s.setVerdict (s.verdict.empty .idle)).setVerdict
      { s.verdict.empty .idle with late := satInc s.verdict.late }).raise .verdictFault) hc hd
  have hiff (n : StackNo) : LateMarked s r [b2, b3, b4] (List.finRange 12) s.memory.stackRecs[n] n ↔
      s.pfail = false ∧ (s.memory.stackRecs[n].state ≠ .free ∧ s.memory.stackRecs[n].state ≠ .quarantined .damaged) ∧
        ∃ l : Lane, r.lanes[l].disposition = .stack n ∧ 2 ≤ (laneCode [b2, b3, b4] l).toNat ∧
          s.memory.stackRecs[n].lane = l.val + 1 := by
    unfold LateMarked LateReject
    simp only [markable_iff, List.mem_finRange, true_and]
  refine ⟨recs, hexec.trans (congrArg Host.Outcome.next hfold), fun n => ?_⟩
  rw [← hiff]
  exact hrecs n

/-! ### ROW REJECT (R54, R55) -/

theorem rowRejectRule_noLane {s : State} (tag : Byte) : rowRejectRule tag 0 s = refuse s .errArg := if_pos rfl

theorem rowRejectRule_notOpen {s : State} {tag : Byte} (lanes : BitVec 16) (h : ∀ i r, s.resolveTag tag ≠ .openRow i r) :
    rowRejectRule tag lanes s = refuse s .errArg := by
  unfold rowRejectRule
  split
  next => rfl
  next =>
    split
    next i r hres => exact absurd hres (h i r)
    next => rfl
    next => rfl

theorem rowRejectRule_decided {s : State} {tag : Byte} {lanes : BitVec 16} {i : RingSlot} {r : RowRecord}
    (hl : lanes ≠ 0) (h : s.resolveTag tag = .openRow i r) (hp : r.phase = .decided) :
    rowRejectRule tag lanes s = refuse s .errState := by
  unfold rowRejectRule
  rw [if_neg hl, h]
  exact if_pos hp

theorem rowRejectRule_taken {s : State} {tag : Byte} {lanes : BitVec 16} {i : RingSlot} {r : RowRecord}
    (hl : lanes ≠ 0) (h : s.resolveTag tag = .openRow i r) (hp : r.phase ≠ .decided) :
    rowRejectRule tag lanes s = reply (s.setRow i (r.reject lanes)) (rejectPayload (r.reject lanes)) := by
  unfold rowRejectRule
  rw [if_neg hl, h]
  exact if_neg hp

theorem reject_lane (r : RowRecord) (lanes : BitVec 16) (l : Lane) :
    (r.reject lanes).lanes[l] = { r.lanes[l] with manual := r.lanes[l].manual || lanes.getLsbD l.val } := vtab_get _ l

/-- Settles O28: the form of the set, then the set, the row its tag resolves to and that row's phase. -/
theorem rowRejectSetsManualFlags : Obligations.RowRejectSetsManualFlags := by
  refine fun s tag lanes hp => ⟨fun hbad => ?refused, fun hl hform r hr ht =>
    ⟨fun hdec => ?decided, fun hund => ?taken⟩⟩
  case refused =>
    rw [exec_rowReject]
    by_cases hform : lanes &&& 0xF000 = 0
    · rw [(setForm_iff lanes).mpr hform]
      refine congrArg Host.Outcome.next (request_refuses (by exact hp) ?_)
      rcases hbad with rfl | hbits | hret
      · exact rowRejectRule_noLane tag
      · exact absurd hform hbits
      · exact rowRejectRule_notOpen lanes (resolveTag_notOpen (by exact hret))
    · rw [Bool.eq_false_iff.mpr (mt (setForm_iff lanes).mp hform), request_form (by exact hp)]
  case decided =>
    have hopen : r.phase ≠ .retired := by rw [hdec]; exact nofun
    rw [exec_rowReject, (setForm_iff lanes).mpr hform]
    exact congrArg Host.Outcome.next (request_refuses (by exact hp)
      (rowRejectRule_decided hl (resolveTag_openRow (by exact hr) ht hopen) hdec))
  case taken =>
    have hopen : r.phase ≠ .retired := by rcases hund with h | h <;> rw [h] <;> exact nofun
    have hundecided : r.phase ≠ .decided := by rcases hund with h | h <;> rw [h] <;> exact nofun
    refine ⟨r.reject lanes, ?_, rfl, reject_lane r lanes⟩
    rw [exec_rowReject, (setForm_iff lanes).mpr hform]
    exact congrArg Host.Outcome.next (request_replies (by exact hp)
      (rowRejectRule_taken hl (resolveTag_openRow (by exact hr) ht hopen) hundecided))

end Sys2Proof.Proofs
end

section
/-! SUPPORT. Completion of a SEALED record and the push of a HELD one, and the requests STACK CLOSE, STACK TARGET, SHUTTLE
CLEAR and COUNTER WRITE. -/

namespace Sys2Proof.Proofs

open Sys2Proof Sys2Proof.Machine Sys2Proof.Laws

theorem exec_stackComplete (n : StackNo) (s : State) : exec (.stackComplete n) s = .next (s.takeComplete n) := rfl

theorem exec_heldPush (l : Lane) (s : State) :
    exec (.heldPush l) s = .next (if s.pfail then s else (s.pushHeld l).grant) := rfl

theorem exec_stackClose (b : Byte) (s : State) :
    exec (.stackClose b) s = .next ((s.framed 1).request true (stackCloseRule b)) := rfl

theorem exec_stackTarget (b : Byte) (v : BitVec 16) (s : State) :
    exec (.stackTarget b v) s = .next ((s.framed 3).request true (stackTargetRule b v)) := rfl

theorem exec_shuttleClear (s : State) :
    exec .shuttleClear s = .next ((s.framed 0).request true shuttleClearRule) := rfl

theorem exec_counterWrite (p : CounterPayload) (s : State) :
    exec (.counterWrite p) s =
      .next ((s.framed 12).request (setForm p.laneSet && maskForm p.mask) (counterWriteRule p)) := rfl

/-! ### Completion (R126, R127) -/

theorem complete_iff (r : StackRecord) : r.complete = true ↔ r.state = .sealed ∧ r.landed + r.lost = r.committed := by
  simp only [StackRecord.complete, Bool.and_eq_true, beq_iff_eq]

/-- A SEALED record is answered from its place in the image. -/
theorem sealed_not_inDamagedSet {s : State} {n : StackNo} (h : (s.stack n).state = .sealed) :
    s.inDamagedSet (.stack n) = false :=
  live_not_inDamagedSet (by rw [h]; exact nofun)

/-- R127: a SEALED record with nothing committed moves to FREE. -/
theorem moveComplete_frees {s : State} {n : StackNo} (hs : (s.stack n).state = .sealed)
    (hzero : (s.stack n).committed = 0) :
    s.moveComplete n = (s.setStack n { s.stack n with state := .free }).unblockLanes := by
  rw [State.moveComplete, if_pos hzero, freed_eq (by rw [hs]; exact nofun)]

theorem laneOfNumber_eq {k : Nat} {l : Lane} (h : k = l.val + 1) : laneOfNumber k = l := by rw [h, laneOfNumber_succ]

/-- R124, R127: the record that a complete one becomes when it joins its lane's pile in the state `st`. -/
def piledRecord (r : StackRecord) (st : StackState) : StackRecord :=
  { r with state := st, flags := { r.flags with short := r.flags.short || decide (r.landed < r.target) } }

section
variable {s : State} {n : StackNo} {l : Lane} (hsome : (s.stack n).committed ≠ 0) (hl : (s.stack n).lane = l.val + 1)
include hsome hl

/-- R127: a complete record moves to HELD while the lane's ready position is occupied. -/
theorem moveComplete_holds (hr : s.readyOf l ≠ none) :
    s.moveComplete n = s.setStack n (piledRecord (s.stack n) .held) := by
  rw [State.moveComplete, if_neg hsome, laneOfNumber_eq hl, if_pos (Option.isSome_iff_ne_none.mpr hr)]
  rfl

/-- R127: a complete record moves to a free ready position with a PUSH pulse. -/
theorem moveComplete_readies (hr : s.readyOf l = none) :
    s.moveComplete n = (s.setStack n (piledRecord (s.stack n) .ready)).emit (.push l) := by
  rw [State.moveComplete, if_neg hsome, laneOfNumber_eq hl, hr, Option.isSome_none, if_neg Bool.false_ne_true]
  rfl

end

/-- R127: a complete record with nothing committed becomes FREE. -/
theorem completeTest_frees {s : State} {n : StackNo} (hp : s.pfail = false) (hs : (s.stack n).state = .sealed)
    (hsum : (s.stack n).landed + (s.stack n).lost = (s.stack n).committed) (hzero : (s.stack n).committed = 0) :
    s.completeTest n = (s.setStack n { s.stack n with state := .free }).unblockLanes := by
  have hmove := moveComplete_frees hs hzero
  have hstack : ((s.moveComplete n).stack n).state = .free := by
    rw [hmove]
    exact congrArg StackRecord.state (stack_setStack_same s n _ (sealed_not_inDamagedSet hs))
  rw [completeTest_moves hp ((complete_iff _).mpr ⟨hs, hsum⟩), if_neg (by rw [hstack]; exact nofun), hmove]

section
variable {s : State} {n : StackNo} {l : Lane} (hp : s.pfail = false) (hs : (s.stack n).state = .sealed)
  (hsum : (s.stack n).landed + (s.stack n).lost = (s.stack n).committed) (hsome : (s.stack n).committed ≠ 0)
  (hl : (s.stack n).lane = l.val + 1)
include hp hs hsum hsome hl

/-- R127: a complete record is HELD while the lane's ready position is occupied. -/
theorem completeTest_holds (hr : s.readyOf l ≠ none) :
    s.completeTest n = s.setStack n (piledRecord (s.stack n) .held) := by
  have hmove := moveComplete_holds hsome hl hr
  have hstack : ((s.moveComplete n).stack n).state = .held := by
    rw [hmove, stack_setStack_same s n _ (sealed_not_inDamagedSet hs)]
    rfl
  rw [completeTest_moves hp ((complete_iff _).mpr ⟨hs, hsum⟩), if_neg (by rw [hstack]; exact nofun), hmove]

/-- R127, R141: a complete record takes a free ready position with a PUSH pulse, and is offered to the arbiter. -/
theorem completeTest_pushes (hr : s.readyOf l = none) :
    s.completeTest n =
      State.grant { s.setStack n (piledRecord (s.stack n) .ready) with outputs := .push l :: s.outputs } := by
  have hmove := moveComplete_readies hsome hl hr
  have hstack : ((s.moveComplete n).stack n).state = .ready := by
    rw [hmove]
    exact congrArg StackRecord.state (stack_setStack_same s n _ (sealed_not_inDamagedSet hs))
  rw [completeTest_moves hp ((complete_iff _).mpr ⟨hs, hsum⟩), if_pos hstack, hmove]
  rfl

end

/-- Settles O42, by PFAIL, the state of the record and the sum of its counts, then by the lane's ready position. -/
theorem completeRecordMovesOnAndHeldRecordIsPushed : Obligations.CompleteRecordMovesOnAndHeldRecordIsPushed := by
  refine ⟨fun s n => ⟨fun h => ?notRead, fun hp hs => ?read, fun h => ?stays, fun hp hs hsum =>
      ⟨completeTest_frees hp hs hsum, fun l f hsome hl hf => ⟨fun hr => ?held, fun hr => ?ready⟩⟩⟩,
    fun s l => ⟨fun hp => ?power, fun hp h => ?noPush, fun n hs hh hr => ?push⟩⟩
  case notRead =>
    have hno : ¬(s.pfail = false ∧ (s.stack n).state = .sealed) := by
      rintro ⟨hp, hs⟩
      rcases h with h | h
      · exact Bool.false_ne_true (hp.symm.trans h)
      · exact h hs
    rw [exec_stackComplete, State.takeComplete, if_neg hno]
  case read => rw [exec_stackComplete, State.takeComplete, if_pos ⟨hp, hs⟩]
  case stays =>
    refine completeTest_stays (h.imp_right fun h => Bool.eq_false_iff.mpr (mt (complete_iff _).mp ?_))
    rintro ⟨hs, hsum⟩
    exact h.elim (fun h => h hs) (fun h => h hsum)
  case held =>
    subst hf
    exact completeTest_holds hp hs hsum hsome hl hr
  case ready =>
    subst hf
    exact completeTest_pushes hp hs hsum hsome hl hr
  case power => rw [exec_heldPush, if_pos hp]
  case noPush => rw [exec_heldPush, if_neg (by simp [hp]), pushHeld_stays h]
  case push =>
    rw [exec_heldPush, if_neg (by simp [hs.power]), pushHeld_pushes hs.clean hh hr]
    rfl

/-! ### STACK CLOSE (R135) -/

/-- R135, R192: the state byte of a response: READY for a record that the arbiter has granted in the same event. -/
theorem byteOf_beforeGrant (st : StackState) :
    byteOf st.beforeGrant.code = if st = .transfer then 4 else byteOf st.code := by
  cases st <;> rfl

theorem stackCloseRule_refuses {s : State} {b : Byte} {l : Lane} (hb : b.toNat = l.val + 1) (h : s.openOf l = none) :
    stackCloseRule b s = refuse s .errState := by
  rw [stackCloseRule, laneArg_of hb]
  dsimp only
  rw [h]

theorem stackCloseRule_closes {s : State} {b : Byte} {l : Lane} {n : StackNo} (hs : s.sound) (hb : b.toNat = l.val + 1)
    (h : s.openOf l = some n) :
    stackCloseRule b s = reply (s.seal n .close) (closePayload (s.seal n .close) n) := by
  rw [stackCloseRule, laneArg_of hb]
  dsimp only
  rw [h, sealLane_open hs.clean hs.power h]

/-! ### STACK TARGET (R136) -/

theorem stackTargetRule_notOpen {s : State} {b : Byte} {v : BitVec 16} {n : StackNo} (hb : b.toNat = n.val)
    (h : (s.stack n).state ≠ .opened) : stackTargetRule b v s = refuse s .errState := by
  rw [stackTargetRule, indexArg_of hb]
  exact if_neg h

theorem inRange_iff (lo x hi : Nat) : inRange lo x hi = true ↔ lo ≤ x ∧ x ≤ hi := by
  simp only [inRange, Bool.and_eq_true, decide_eq_true_eq]

/-- R136: on a clean image the target of an OPEN record is judged by its range and by the committed count. -/
theorem stackTargetRule_open {s : State} {b : Byte} {v : BitVec 16} {n : StackNo} (hc : s.clean) (hb : b.toNat = n.val)
    (h : (s.stack n).state = .opened) :
    stackTargetRule b v s =
      if (1 ≤ v.toNat ∧ v.toNat ≤ 9999) ∧ (s.stack n).committed ≤ v.toNat then
        reply (s.setTarget n v.toNat) (targetPayload (s.setTarget n v.toNat) n)
      else refuse s .errArg := by
  rw [stackTargetRule, indexArg_of hb]
  dsimp only
  rw [if_pos h, readRecord_clean _ s hc, if_pos h]
  simp only [inRange_iff]

theorem setTarget_above {s : State} {n : StackNo} {v : Nat} (h : (s.stack n).committed ≠ v) :
    s.setTarget n v = s.setStack n { s.stack n with target := v } := if_neg h

/-- R136: a target that equals the committed count seals the record. -/
theorem setTarget_equal {s : State} {n : StackNo} {v : Nat} (ho : (s.stack n).state = .opened)
    (h : (s.stack n).committed = v) :
    s.setTarget n v =
      State.completeTest (s.setStack n
        { s.stack n with target := v, state := .sealed, sealReason := some .target }) n := by
  have hlive := live_not_inDamagedSet (s := s) (n := n) (by rw [ho]; exact nofun)
  have htwice (a b : StackRecord) : (s.setStack n a).setStack n b = s.setStack n b := by
    unfold State.setStack
    dsimp only
    rw [vset_vset]
  rw [State.setTarget, if_pos h, seal_eq, stack_setStack_same s n _ hlive, htwice]

section
variable {s : State} {b : Byte} {v : BitVec 16} {n : StackNo} (hc : s.clean) (hb : b.toNat = n.val)
  (ho : (s.stack n).state = .opened)
include hc hb ho

/-- R136: a target out of range, or below the committed count, is refused. -/
theorem stackTargetRule_refuses (h : v.toNat = 0 ∨ 9999 < v.toNat ∨ v.toNat < (s.stack n).committed) :
    stackTargetRule b v s = refuse s .errArg := by
  rw [stackTargetRule_open hc hb ho, if_neg (by omega)]

/-- R136: a target above the committed count is set, and the record stays OPEN. -/
theorem stackTargetRule_above (hlow : 1 ≤ v.toNat) (hhigh : v.toNat ≤ 9999) (h : (s.stack n).committed < v.toNat) :
    stackTargetRule b v s =
      reply (s.setStack n { s.stack n with target := v.toNat }) (beBytes 2 v.toNat ++ [1]) := by
  have hlive := live_not_inDamagedSet (s := s) (n := n) (by rw [ho]; exact nofun)
  have hpayload : targetPayload (s.setStack n { s.stack n with target := v.toNat }) n = beBytes 2 v.toNat ++ [1] := by
    rw [targetPayload, stack_setStack_same s n _ hlive]
    show beBytes 2 v.toNat ++ [byteOf (s.stack n).state.beforeGrant.code] = _
    rw [ho]
    rfl
  rw [stackTargetRule_open hc hb ho, if_pos ⟨⟨hlow, hhigh⟩, Nat.le_of_lt h⟩,
    setTarget_above (Nat.ne_of_lt h), hpayload]

/-- R136: a target that equals the committed count seals the record, and its state before a grant is answered. -/
theorem stackTargetRule_equal (hlow : 1 ≤ v.toNat) (hhigh : v.toNat ≤ 9999) (h : (s.stack n).committed = v.toNat)
    {t : State}
    (ht : t = State.completeTest (s.setStack n
      { s.stack n with target := v.toNat, state := .sealed, sealReason := some .target }) n) :
    stackTargetRule b v s =
      reply t (beBytes 2 (t.stack n).target ++
        [if (t.stack n).state = .transfer then 4 else byteOf (t.stack n).state.code]) := by
  rw [stackTargetRule_open hc hb ho, if_pos ⟨⟨hlow, hhigh⟩, Nat.le_of_eq h⟩, setTarget_equal ho h, ← ht,
    targetPayload, byteOf_beforeGrant]

end

/-! ### SHUTTLE CLEAR (R148) -/

theorem shuttleClearRule_clears {s : State} (h : s.shuttle.state = .faulted) :
    shuttleClearRule s = reply (s.setShuttle .idle).grant (grantPayload (s.setShuttle .idle).grant) := if_pos h

theorem shuttleClearRule_refuses {s : State} (h : s.shuttle.state ≠ .faulted) :
    shuttleClearRule s = refuse s .errState := if_neg h

/-! ### COUNTER WRITE (R166, R170) -/

theorem maskForm_iff (v : BitVec 16) : maskForm v = true ↔ v &&& 0x8000 = 0 := beq_iff_eq

theorem counterUnitOfCode_iff (k : Nat) (m : CounterUnit) : CounterUnit.ofCode k = some m ↔ k = m.code := by
  match k with
  | 0 | 1 => cases m <;> decide
  | k + 2 => cases m <;> simp [CounterUnit.ofCode, CounterUnit.code]

theorem counterModeOfCode_iff (k : Nat) (m : CounterMode) : CounterMode.ofCode k = some m ↔ k = m.code := by
  match k with
  | 0 | 1 => cases m <;> decide
  | k + 2 => cases m <;> simp [CounterMode.ofCode, CounterMode.code]

theorem counterActionOfCode_iff (k : Nat) (m : CounterAction) : CounterAction.ofCode k = some m ↔ k = m.code := by
  match k with
  | 0 | 1 => cases m <;> decide
  | k + 2 => cases m <;> simp [CounterAction.ofCode, CounterAction.code]

/-- R170: the configuration that a payload carries with the unit, mode and action of its codes. -/
def carriedConfig (p : CounterPayload) (unit : CounterUnit) (mode : CounterMode) (action : CounterAction) :
    CounterConfig where
  damaged := false
  laneSet := p.laneSet
  mask := p.mask
  unit := unit
  mode := mode
  window := if mode = .window then p.window.toNat else 0
  threshold := p.threshold.toNat
  action := action

/-- R166: with three codes that are known, a payload carries a configuration unless its window length is out of range. -/
theorem config_of_codes {p : CounterPayload} {unit : CounterUnit} {mode : CounterMode} {action : CounterAction}
    (hu : p.unit.toNat = unit.code) (hm : p.mode.toNat = mode.code) (ha : p.action.toNat = action.code) :
    CounterPayload.config p =
      if mode = .window ∧ ¬inRange 16 p.window.toNat 4096 = true then none
      else some (carriedConfig p unit mode action) := by
  rw [CounterPayload.config, (counterUnitOfCode_iff _ _).mpr hu, (counterModeOfCode_iff _ _).mpr hm,
    (counterActionOfCode_iff _ _).mpr ha]
  rfl

/-- R166: a payload that carries a configuration has the codes of its unit, mode and action. -/
theorem codes_of_config {p : CounterPayload} {cfg : CounterConfig} (h : CounterPayload.config p = some cfg) :
    p.unit.toNat = cfg.unit.code ∧ p.mode.toNat = cfg.mode.code ∧ p.action.toNat = cfg.action.code := by
  unfold CounterPayload.config at h
  split at h
  next unit mode action hu hm ha =>
    split at h
    next => exact nomatch h
    next =>
      obtain rfl := Option.some.inj h
      exact ⟨(counterUnitOfCode_iff _ _).mp hu, (counterModeOfCode_iff _ _).mp hm, (counterActionOfCode_iff _ _).mp ha⟩
  next => exact nomatch h

theorem config_iff (p : CounterPayload) (cfg : CounterConfig) :
    CounterPayload.config p = some cfg ↔
      p.unit.toNat = cfg.unit.code ∧ p.mode.toNat = cfg.mode.code ∧ p.action.toNat = cfg.action.code ∧
        (cfg.mode = .window → 16 ≤ p.window.toNat ∧ p.window.toNat ≤ 4096) ∧
        cfg = carriedConfig p cfg.unit cfg.mode cfg.action := by
  constructor
  · intro h
    obtain ⟨hu, hm, ha⟩ := codes_of_config h
    rw [config_of_codes hu hm ha] at h
    split at h
    next => exact nomatch h
    next hwindow =>
      refine ⟨hu, hm, ha, fun hw => (inRange_iff _ _ _).mp ?_, (Option.some.inj h).symm⟩
      exact Classical.not_not.mp fun hr => hwindow ⟨hw, hr⟩
  · rintro ⟨hu, hm, ha, hwindow, hcfg⟩
    rw [config_of_codes hu hm ha, if_neg (fun h => h.2 ((inRange_iff _ _ _).mpr (hwindow h.1))), ← hcfg]

theorem counterWriteRule_writes {s : State} {p : CounterPayload} {c : CounterNo} {cfg : CounterConfig} (hc : s.clean)
    (hb : p.counter.toNat = c.val) (h : CounterPayload.config p = some cfg) :
    counterWriteRule p s =
      reply ((s.setCounterRec c cfg).setCounter c { config := cfg, working := 0, published := 0, rows := 0 }) [] := by
  rw [counterWriteRule, indexArg_of hb, h]
  dsimp only
  rw [State.writeCounter, clearFlips_clean (s := s.setCounterRec c cfg) hc]

theorem counterWriteRule_refuses {s : State} {p : CounterPayload}
    (h : 4 ≤ p.counter.toNat ∨ CounterPayload.config p = none) : counterWriteRule p s = refuse s .errArg := by
  unfold counterWriteRule
  split
  next c cfg hc hcfg =>
    rcases h with h | h
    · rw [indexArg_none h] at hc
      exact nomatch hc
    · rw [h] at hcfg
      exact nomatch hcfg
  next => rfl

/-! ### The statement, request by request -/

/-- Settles O58. -/
theorem stackShuttleAndCounterRequestsTakeEffect : Obligations.StackShuttleAndCounterRequestsTakeEffect := by
  intro s hs
  have hpower (len : Nat) : (s.framed len).pfail = false := hs.power
  refine ⟨fun b l hb => ⟨fun h => ?closeNone, fun n t h ht => ?close⟩, fun b hb => ?closeArg,
    fun b v n hb => ⟨fun h => ?targetState, fun ho => ⟨fun h => ?targetArg, fun hlow hhigh h => ?target,
      fun t hlow hhigh h ht => ?targetSeals⟩⟩, fun b v hb => ?targetRange, fun h t ht => ?clear, fun h => ?clearState,
    fun p c cfg hb hset hmask h => ?counter, fun p h => ?counterArg, config_iff⟩
  case closeNone =>
    rw [exec_stackClose, request_refuses (hpower _) (stackCloseRule_refuses hb h)]
  case close =>
    subst ht
    have hsound : ({ s.framed 1 with port := .building } : State).sound := ⟨hs.clean, hs.power, hs.damaged⟩
    rw [exec_stackClose, request_replies (hpower _) (stackCloseRule_closes hsound hb h), closePayload, byteOf_beforeGrant]
    rfl
  case closeArg =>
    refine congrArg Host.Outcome.next (request_errArg (hpower _) fun _ => ?_)
    rw [stackCloseRule, laneArg_none hb]
  case targetState =>
    rw [exec_stackTarget, request_refuses (hpower _) (stackTargetRule_notOpen hb h)]
  case targetArg =>
    exact congrArg Host.Outcome.next
      (request_refuses (hpower 3) (stackTargetRule_refuses (by exact hs.clean) hb (by exact ho) (by exact h)))
  case target =>
    have hrule := stackTargetRule_above (s := { s.framed 3 with port := .building }) hs.clean hb ho hlow hhigh h
    have hanswer := request_replies (hpower 3) hrule
    exact congrArg Host.Outcome.next hanswer
  case targetSeals =>
    exact congrArg Host.Outcome.next
      (request_replies (hpower 3) (stackTargetRule_equal (by exact hs.clean) hb (by exact ho) hlow hhigh (by exact h) ht))
  case targetRange =>
    refine congrArg Host.Outcome.next (request_errArg (hpower _) fun _ => ?_)
    rw [stackTargetRule, indexArg_none hb]
  case clear =>
    subst ht
    rw [exec_shuttleClear, request_replies (hpower _) (shuttleClearRule_clears h), grantPayload]
    rfl
  case clearState =>
    rw [exec_shuttleClear, request_refuses (hpower _) (shuttleClearRule_refuses h)]
  case counter =>
    rw [exec_counterWrite, (setForm_iff _).mpr hset, (maskForm_iff _).mpr hmask]
    exact congrArg Host.Outcome.next (request_replies (hpower _) (counterWriteRule_writes (by exact hs.clean) hb h))
  case counterArg =>
    refine congrArg Host.Outcome.next (request_errArg (hpower _) fun hform => ?_)
    rw [Bool.and_eq_true, setForm_iff, maskForm_iff] at hform
    obtain ⟨hset, hmask⟩ := hform
    refine counterWriteRule_refuses ?_
    rcases h with h | h | h | h
    · exact .inl h
    · exact absurd hset h
    · exact absurd hmask h
    · exact .inr h

end Sys2Proof.Proofs
end

section
/-! SUPPORT. The gap check: the missing run before a landed serial, and its entry into the gap list piece by piece. -/

namespace Sys2Proof.Proofs

open Sys2Proof Sys2Proof.Machine Sys2Proof.Laws

/-! ### The pieces of a missing run (R131) -/

/-- R112: the steps from an origin add up, whatever serial they are counted from. -/
theorem serialAt_serialAt (mode : SerialMode) (step s0 j k : Nat) :
    serialAt mode step (serialAt mode step s0 j) k = serialAt mode step s0 (j + k) := by
  have hmod : ∀ a b : Int, ((a % serialModulus).toNat + b) % serialModulus = (a + b) % serialModulus := by
    intro a b
    unfold serialModulus
    omega
  have hmul : ((step * (j + k : Nat) : Nat) : Int) = (step : Int) * j + step * k := by
    rw [Int.natCast_mul, Int.natCast_add, Int.mul_add]
  have hup : ((((s0 : Int) + step * j) % serialModulus).toNat + (step : Int) * k) % serialModulus =
      ((s0 : Int) + step * (j + k : Nat)) % serialModulus := by
    rw [hmod, Int.add_assoc, ← hmul]
    push_cast
    rfl
  cases mode with
  | down =>
    have hdown : ((((s0 : Int) - step * j) % serialModulus).toNat - (step : Int) * k) % serialModulus =
        ((s0 : Int) - step * (j + k : Nat)) % serialModulus := by
      rw [Int.sub_eq_add_neg, hmod]
      congr 1
      rw [Int.natCast_add, Int.mul_add]
      omega
    exact congrArg Int.toNat hdown
  | none => exact congrArg Int.toNat hup
  | up => exact congrArg Int.toNat hup

theorem gapPieces_zero (mode : SerialMode) (step start : Nat) (cause : Cause) :
    gapPieces mode step start 0 cause = [] := rfl

/-- R131: the first piece of a missing run holds at most 9,999 serials, and the others are those of the run after it. -/
theorem gapPieces_cons (mode : SerialMode) (step : Nat) {start len : Nat} (cause : Cause) (hs : start < 100000000)
    (hl : 1 ≤ len) :
    gapPieces mode step start len cause =
      { start := start, length := min len 9999, cause := cause } ::
        gapPieces mode step (serialAfter mode step start 9999) (len - 9999) cause := by
  have hcount : (len + 9998) / 9999 = (len - 9999 + 9998) / 9999 + 1 := by omega
  unfold gapPieces
  rw [hcount, List.range_succ_eq_map, List.map_cons, List.map_map]
  congr 1
  · rw [Nat.mul_zero, Nat.sub_zero, serialAt_zero, Nat.mod_eq_of_lt hs, Nat.min_comm]
  · refine List.map_congr_left fun i _ => ?_
    show Gap.mk _ _ cause = Gap.mk _ _ cause
    rw [serialAfter, serialAt_serialAt, Nat.mul_succ, Nat.add_comm, Nat.sub_sub]

/-- R131: with room or rounds enough, the pieces are entered until the list is full, and one that meets a full list leaves
GAPS_INCOMPLETE. -/
theorem enterGap_eq (mode : SerialMode) (step : Nat) (cause : Cause) {fuel start len : Nat} {g : List Gap} (b : Bool)
    (hfuel : 1 ≤ fuel ∧ 9 ≤ fuel + g.length) (hs : start < 100000000) (hg : g.length ≤ 8 ∨ 1 ≤ len) :
    enterGap mode step cause fuel start len (g, b) =
      (g ++ (gapPieces mode step start len cause).take (8 - g.length),
        b || decide (8 < g.length + (gapPieces mode step start len cause).length)) := by
  induction fuel generalizing start len g with
  | zero => omega
  | succ fuel ih =>
    unfold enterGap
    by_cases hlen : len = 0
    · subst hlen
      have hroom : ¬8 < g.length + 0 := by omega
      rw [if_pos rfl, gapPieces_zero, List.take_nil, List.append_nil, List.length_nil, decide_eq_false hroom,
        Bool.or_false]
    · have hpieces := gapPieces_cons mode step cause hs (by omega : 1 ≤ len)
      rw [if_neg hlen]
      by_cases hfull : 8 ≤ g.length
      · have hover : 8 < g.length + (gapPieces mode step start len cause).length := by
          rw [hpieces, List.length_cons]
          omega
        rw [if_pos hfull, Nat.sub_eq_zero_of_le hfull, List.take_zero, List.append_nil, decide_eq_true hover, Bool.or_true]
      · have hnext : (g ++ [({ start := start, length := min len 9999, cause := cause } : Gap)]).length =
            g.length + 1 := by rw [List.length_append, List.length_singleton]
        have hlater : serialAfter mode step start 9999 < 100000000 := serialAt_lt mode step start 9999
        have hleft : 8 - g.length = (8 - (g.length + 1)) + 1 := by omega
        rw [if_neg hfull, ih (by rw [hnext]; omega) hlater (.inl (by rw [hnext]; omega)), hnext, hpieces, hleft,
          List.take_succ_cons, List.append_assoc, List.singleton_append, List.length_cons, Nat.add_right_comm,
          Nat.add_assoc]

/-- R131: a run of at most 9,999 is one entry. -/
theorem enterGap_one (mode : SerialMode) (step : Nat) (cause : Cause) {start len : Nat} {g : List Gap} (b : Bool)
    (hl : 1 ≤ len ∧ len ≤ 9999) (hg : g.length < 8) :
    enterGap mode step cause 9 start len (g, b) = (g ++ [{ start := start, length := len, cause := cause }], b) := by
  unfold enterGap
  rw [if_neg (by omega), if_neg (Nat.not_le.mpr hg), Nat.sub_eq_zero_of_le hl.2, Nat.min_eq_left hl.2]
  unfold enterGap
  rw [if_pos rfl]

/-! ### The missing run (R130) -/

/-- R130: the missing run from the first serial, when nothing has landed. -/
theorem missingRun_first {mode : SerialMode} {step k f d : Nat} {sp : SerialPart} (hl : sp.lastLanded = none)
    (hf : sp.first = some f) (hd : serialDistance mode step f k = some d) :
    missingRun mode step sp k = if 1 ≤ d then some (f, d) else none := by
  unfold missingRun
  rw [hl]
  dsimp only
  rw [hf]
  dsimp only
  rw [hd]

/-- R130: the missing run from one step after the last landed. -/
theorem missingRun_landed {mode : SerialMode} {step k a d : Nat} {sp : SerialPart} (hl : sp.lastLanded = some a)
    (hd : serialDistance mode step a k = some d) :
    missingRun mode step sp k = if 2 ≤ d then some (serialAt mode step a 1, d - 1) else none := by
  unfold missingRun
  rw [hl]
  dsimp only
  rw [hd]
  rfl

theorem gapCheck_noGap {mode : SerialMode} {step k : Nat} {r : StackRecord} {sp : SerialPart} (skip : Option Cause)
    (hr : r.serial = some sp) (h : missingRun mode step sp k = none) :
    gapCheck mode step skip k r = { r with serial := some { sp with lastLanded := some k } } := by
  unfold gapCheck
  rw [hr]
  dsimp only
  rw [h]

theorem gapCheck_gap {mode : SerialMode} {step k start len : Nat} {r : StackRecord} {sp : SerialPart} {g : List Gap}
    {b : Bool} (skip : Option Cause) (hr : r.serial = some sp)
    (h : missingRun mode step sp k = some (start, len))
    (hg : enterGap mode step (skip.getD .resume) 9 start len (sp.gaps, r.flags.gapsIncomplete) = (g, b)) :
    gapCheck mode step skip k r =
      { r with
          serial := some { sp with lastLanded := some k, gaps := g }
          flags := { r.flags with gapsIncomplete := b } } := by
  unfold gapCheck
  rw [hr]
  dsimp only
  rw [h]
  dsimp only
  rw [hg]

/-- Settles O39, by the missing run; one of at most 9,999 is a single entry. -/
theorem gapCheckRecordsMissingRun : Obligations.GapCheckRecordsMissingRun := by
  intro mode step skip k r sp hr start len missing hfirst hlanded hsome hwhole
  have hrun : missingRun mode step sp k = (if missing = true then some (start, len) else none) ∧
      (missing = true → 1 ≤ len) := by
    cases hl : sp.lastLanded with
    | none =>
      obtain ⟨f, hf⟩ := Option.ne_none_iff_exists'.mp (hsome hl)
      obtain ⟨hd, rfl, rfl⟩ := hfirst f hl hf
      rw [missingRun_first hl hf hd]
      simp only [decide_eq_true_eq, imp_self, and_self]
    | some a =>
      obtain ⟨d, hd⟩ := Option.ne_none_iff_exists'.mp (hwhole a hl)
      obtain ⟨rfl, rfl, rfl⟩ := hlanded a d hl hd
      rw [missingRun_landed hl hd]
      simp only [decide_eq_true_eq, true_and]
      omega
  obtain ⟨hrun, hlong⟩ := hrun
  refine ⟨fun hm => ?noGap, fun hm hl hg => ?one, fun hm hstart pieces hpieces => ?pieces⟩
  case noGap =>
    rw [hm] at hrun
    exact gapCheck_noGap skip hr hrun
  case one =>
    rw [hm] at hrun
    exact gapCheck_gap skip hr hrun (enterGap_one mode step _ _ ⟨hlong hm, hl⟩ hg)
  case pieces =>
    subst hpieces
    rw [hm] at hrun
    exact gapCheck_gap skip hr hrun (enterGap_eq mode step _ _ ⟨by decide, by omega⟩ hstart (.inr (hlong hm)))

end Sys2Proof.Proofs
end

section
/-! SUPPORT. TAKEN and STACK RETIRE: what leaves the delivery queue, and the records that become FREE. -/

namespace Sys2Proof.Proofs

open Sys2Proof Sys2Proof.Machine Sys2Proof.Laws

theorem exec_taken (s : State) : exec .taken s = .next s.takeTaken := rfl

theorem exec_stackRetire (b : Byte) (s : State) :
    exec (.stackRetire b) s = .next ((s.framed 2).request true (stackRetireRule b)) := rfl

theorem exec_stackRetireAll (b : Byte) (s : State) :
    exec (.stackRetireAll b) s = .next ((s.framed 2).request true stackRetireAllRule) := rfl

/-! ### TAKEN (R152, R156) -/

theorem takeTaken_stray {s : State} (h : s.queue.entries = []) : s.takeTaken = s.strayTake := by
  rw [State.takeTaken, h]

theorem takeTaken_void {s : State} {rest : List (Option StackNo)} (h : s.queue.entries = none :: rest) :
    s.takeTaken = s.dropHead.grant := by
  rw [State.takeTaken, h]

/-- The queue's rest once its head has left. -/
theorem dropHead_eq {s : State} {e : Option StackNo} {rest : List (Option StackNo)} (h : s.queue.entries = e :: rest) :
    s.dropHead = { s with queue := { s.queue with entries := rest } } := by
  rw [State.dropHead, h, List.tail_cons]

section
variable {s : State} {n : StackNo} {rest : List (Option StackNo)} (h : s.queue.entries = some n :: rest)
include h

/-- R156: a take of a stack under PFAIL is only counted. -/
theorem takeTaken_power (hp : s.pfail = true) :
    s.takeTaken = { s with shuttle := { s.shuttle with powerFailTakes := satInc s.shuttle.powerFailTakes } } := by
  rw [State.takeTaken, h]
  exact if_pos hp

/-- R152: on a sound part a DELIVERED record at the head becomes FREE. -/
theorem takeTaken_delivered (hs : s.sound) (hd : (s.stack n).state = .delivered) :
    s.takeTaken =
      State.grant (State.unblockLanes
        { s.setStack n { s.stack n with state := .free } with queue := { s.queue with entries := rest } }) := by
  have hfreed : (s.stack n).freed = { s.stack n with state := .free } := freed_eq (by rw [hd]; exact nofun)
  have hdrop : s.dropHead.freeDelivered n = s.dropHead.freeStack n := if_pos hd
  have htake : s.takeTaken = ((readRecord (.stack n) s).dropHead.freeDelivered n).grant := by
    rw [State.takeTaken, h]
    exact if_neg (by rw [hs.power]; exact Bool.false_ne_true)
  rw [htake, readRecord_clean _ s hs.clean, hdrop, freeStack_clean n (by exact hs.clean), dropHead_eq h]
  show State.grant (State.unblockLanes (State.setStack _ n (s.stack n).freed)) = _
  rw [hfreed]
  rfl

end

/-! ### STACK RETIRE of one record (R153) -/

section
variable {s : State} {b : Byte} {n : StackNo} (hb : b.toNat = n.val)
include hb

theorem stackRetireRule_delivered (h : (s.stack n).state = .delivered) :
    stackRetireRule b s = retireDelivered n s := by
  rw [stackRetireRule, indexArg_of hb]
  dsimp only
  rw [h]

theorem stackRetireRule_quarantined {c : QuarantineCause} (h : (s.stack n).state = .quarantined c) :
    stackRetireRule b s = retireQuarantined n s := by
  rw [stackRetireRule, indexArg_of hb]
  dsimp only
  rw [h]

/-- R153: a record in another state is refused. -/
theorem stackRetireRule_other (hd : (s.stack n).state ≠ .delivered) (hq : ∀ c, (s.stack n).state ≠ .quarantined c) :
    stackRetireRule b s = refuse s .errState := by
  rw [stackRetireRule, indexArg_of hb]
  dsimp only
  split
  next hst => exact absurd hst hd
  next c hst => exact absurd hst (hq c)
  next => rfl

end

/-- R153: a DELIVERED record that does not stand at the head is not retired. -/
theorem retireDelivered_notHead {s : State} {n : StackNo} (h : s.queue.entries.head? ≠ some (some n)) :
    retireDelivered n s = refuse s .errNotHead := if_neg h

/-- R153: the DELIVERED record at the head becomes FREE, and its summary is answered. -/
theorem retireDelivered_head {s : State} {n : StackNo} {rest : List (Option StackNo)} (hs : s.sound)
    (hd : (s.stack n).state = .delivered) (h : s.queue.entries = some n :: rest) :
    retireDelivered n s =
      reply (State.grant (State.unblockLanes
        { s.setStack n { s.stack n with state := .free } with queue := { s.queue with entries := rest } }))
        (stackSummary n (s.stack n)) := by
  have hfreed : (s.stack n).freed = { s.stack n with state := .free } := freed_eq (by rw [hd]; exact nofun)
  have hhead : s.queue.entries.head? = some (some n) := by rw [h, List.head?_cons]
  rw [retireDelivered, if_pos hhead, readRecord_clean _ s hs.clean]
  dsimp only
  rw [if_pos hd, freeStack_clean n (by exact hs.clean), dropHead_eq h]
  show reply (State.grant (State.unblockLanes (State.setStack _ n (s.stack n).freed))) _ = _
  rw [hfreed]
  rfl

theorem retireQuarantined_held {s : State} {n : StackNo} (h : s.inTransferStack n = true ∨ s.awaitedStack n = true) :
    retireQuarantined n s = refuse s .errState := if_pos h

/-- R153: a QUARANTINED record that nothing awaits becomes FREE as its read leaves it. -/
theorem retireQuarantined_taken {s : State} {n : StackNo} (ht : s.inTransferStack n = false)
    (ha : s.awaitedStack n = false) (hread : readRecord (.stack n) s = s) :
    retireQuarantined n s = reply (s.freeStack n).grant (stackSummary n (s.stack n)) := by
  rw [retireQuarantined, if_neg (by rw [ht, ha]; simp), hread]

/-- R117, R121: on a clean image a QUARANTINED record that becomes FREE keeps its cause. -/
theorem freeStack_quarantined {s : State} {n : StackNo} {c : QuarantineCause} (hc : s.clean)
    (h : (s.stack n).state = .quarantined c) :
    s.freeStack n = (s.setStack n { s.stack n with state := .free, heldCause := some c }).unblockLanes := by
  rw [freeStack_clean n hc, freed_quarantined h]

/-- R117, R180: a record that carries its damage mark becomes FREE, and the words stored get fresh check bits. -/
theorem freeStack_marked {s : State} {n : StackNo} (h : (s.stack n).state = .quarantined .damaged) :
    s.freeStack n =
      State.unblockLanes
        { s with memory := { s.memory with
            stackRecs := vset s.memory.stackRecs n { s.stack n with state := .free, heldCause := some .damaged }
            flips := s.memory.flips.filter (fun f => !decide (f.ref = .stack n) || !Config.freedWord f.word) } } := by
  have hwords : (fun f : Flip => !(f.ref == .stack n && Config.freedWord f.word)) =
      fun f => !decide (f.ref = .stack n) || !Config.freedWord f.word := by
    funext f
    rw [Bool.not_and]
    rfl
  rw [State.freeStack, freed_quarantined h, State.clearWords, hwords]
  rfl

/-! ### STACK RETIRE of the whole queue (R154) -/

/-- The records that stand in a list of queue entries made FREE. -/
def freedEntries (s : State) (es : List (Option StackNo)) : State :=
  { s with memory := { s.memory with stackRecs := vtab (fun n =>
      if some n ∈ es then { s.memory.stackRecs[n] with state := .free } else s.memory.stackRecs[n]) } }

/-- Entries without a record free none. -/
theorem freedEntries_void {s : State} {es : List (Option StackNo)} (h : es.filterMap id = []) : freedEntries s es = s := by
  have hno (n : StackNo) : ¬some n ∈ es := by
    intro hn
    have hmem : n ∈ es.filterMap id := List.mem_filterMap.mpr ⟨some n, hn, rfl⟩
    rw [h] at hmem
    exact List.not_mem_nil hmem
  unfold freedEntries
  simp only [hno, if_false, vtab_self]

theorem freedEntries_none (s : State) (es : List (Option StackNo)) :
    freedEntries s (none :: es) = freedEntries s es := by
  unfold freedEntries
  simp only [List.mem_cons, reduceCtorEq, false_or]

/-- The first entry's record can be made FREE ahead of the others. -/
theorem freedEntries_some (s : State) (n : StackNo) (es : List (Option StackNo)) :
    freedEntries s (some n :: es) =
      freedEntries (s.setStack n { s.memory.stackRecs[n] with state := .free }) es := by
  have hrecs : vtab (fun m => if some m ∈ some n :: es then { s.memory.stackRecs[m] with state := .free }
        else s.memory.stackRecs[m]) =
      vtab (fun m => if some m ∈ es then
          { (vset s.memory.stackRecs n { s.memory.stackRecs[n] with state := .free })[m] with state := .free }
        else (vset s.memory.stackRecs n { s.memory.stackRecs[n] with state := .free })[m]) := by
    refine congrArg vtab (funext fun m => ?_)
    rw [vset_get]
    by_cases hm : n = m
    · subst hm
      rw [if_pos List.mem_cons_self, if_pos rfl]
      split <;> rfl
    · have hmem : some m ∈ some n :: es ↔ some m ∈ es := by
        rw [List.mem_cons, Option.some.injEq, or_iff_right (Ne.symm hm)]
      simp only [hmem, if_neg hm]
  unfold freedEntries
  rw [hrecs]
  rfl

theorem freedEntries_record (s : State) (es : List (Option StackNo)) (n : StackNo) :
    (freedEntries s es).memory.stackRecs[n] =
      if some n ∈ es then { s.memory.stackRecs[n] with state := .free } else s.memory.stackRecs[n] := vtab_get _ n

/-- R84: two states with the same piles, and each with a FREE record, block the same lanes. -/
theorem newRecordBlock_congr {a b : State} {n m : StackNo} (l : Lane) (ha : (a.stack n).state = .free)
    (hb : (b.stack m).state = .free) (hpile : a.pile l = b.pile l) : a.newRecordBlock l = b.newRecordBlock l := by
  rcases Nat.lt_or_ge (a.pile l).length 2 with h | h
  · rw [newRecordBlock_none h ha, newRecordBlock_none (hpile ▸ h) hb]
  · rw [newRecordBlock_slots h, newRecordBlock_slots (hpile ▸ h)]

/-- R117: a DELIVERED record that becomes FREE is in no pile before or after. -/
theorem pile_freedEntries {s : State} (hd : s.memory.damagedSet = []) {es : List (Option StackNo)}
    (hes : ∀ n, some n ∈ es → (s.stack n).state = .delivered) (l : Lane) : (freedEntries s es).pile l = s.pile l := by
  unfold State.pile
  congr 1
  funext n
  rw [stack_image (freedEntries s es) n hd, freedEntries_record, ← stack_image s n hd]
  split
  next h =>
    have hbefore : (s.stack n).piled = false := by
      unfold StackRecord.piled
      rw [hes n h]
      rfl
    rw [hbefore]
    rfl
  next => rfl

/-- R89: the test of the BLOCKED lanes made twice over with the same outcome is the test made once. -/
theorem unblockLanes_again {u w : State} (hl : w.lanes = u.lanes)
    (hb : ∀ l, u.newRecordBlock l = w.newRecordBlock l) :
    ({ w with lanes := u.unblockLanes.lanes } : State).unblockLanes = w.unblockLanes := by
  have htwice (b : Option BlockedCause) (x : RunState) :
      runAfterUnblock b (runAfterUnblock b x) = runAfterUnblock b x := by
    cases x with
    | blocked c => cases b <;> rfl
    | _ => rfl
  have hlanes : ({ w with lanes := u.unblockLanes.lanes } : State).unblockLanes.lanes = w.unblockLanes.lanes := by
    refine vector_ext fun l => ?_
    rw [unblockLanes_run]
    show ({ u.unblockLanes.lanes[l] with
      run := runAfterUnblock (w.newRecordBlock l) u.unblockLanes.lanes[l].run } : LaneUnit) = _
    rw [unblockLanes_run u, unblockLanes_run w, hb, htwice, hl]
  show ({ w with lanes := ({ w with lanes := u.unblockLanes.lanes } : State).unblockLanes.lanes } : State) = _
  rw [hlanes]
  rfl

/-- R154: on a sound part the entries of the queue, one after the other: their records become FREE, and the lanes are tested
when there is one. -/
theorem foldl_retireEntry {s : State} (hs : s.sound) {es : List (Option StackNo)}
    (hes : ∀ n, some n ∈ es → (s.stack n).state = .delivered) (honce : (es.filterMap id).Nodup) (a b : Nat) :
    es.foldl retireEntry (s, a, b) =
      (if (es.filterMap id).length = 0 then s else (freedEntries s es).unblockLanes,
        a + (es.filterMap id).length, b + es.countP Option.isNone) := by
  induction es generalizing s a b with
  | nil => rfl
  | cons e es ih =>
    cases e with
    | none =>
      rw [List.foldl_cons, show retireEntry (s, a, b) none = (s, a, b + 1) from rfl,
        ih hs (fun n hn => hes n (List.mem_cons_of_mem _ hn)) honce, freedEntries_none,
        List.countP_cons_of_pos rfl, Nat.add_assoc, Nat.add_comm 1]
      rfl
    | some n =>
      have hn : (s.stack n).state = .delivered := hes n List.mem_cons_self
      obtain ⟨hfresh, hrest⟩ := List.nodup_cons.mp (show (n :: es.filterMap id).Nodup from honce)
      have hlater : ∀ m, some m ∈ es → n ≠ m := by
        rintro m hm rfl
        exact hfresh (List.mem_filterMap.mpr ⟨some n, hm, rfl⟩)
      have hfreed : (s.stack n).freed = { s.stack n with state := .free } := freed_eq (by rw [hn]; exact nofun)
      have hset : s.setStack n { s.memory.stackRecs[n] with state := .free } =
          s.setStack n { s.stack n with state := .free } := by rw [stack_image s n hs.damaged]
      generalize hu : s.setStack n { s.stack n with state := .free } = u at *
      have hsu : u.sound := by
        rw [← hu]
        exact ⟨hs.clean, hs.power, hs.damaged⟩
      have hstack : ∀ m, some m ∈ es → (u.stack m).state = .delivered := fun m hm => by
        rw [← hu, stack_setStack_ne s _ (hlater m hm)]
        exact hes m (List.mem_cons_of_mem _ hm)
      have hfree : (u.stack n).state = .free := by
        rw [← hu, stack_setStack_same s n _ (live_not_inDamagedSet (by rw [hn]; exact nofun))]
      have hstep : retireEntry (s, a, b) (some n) = (u.unblockLanes, a + 1, b) := by
        rw [retireEntry]
        dsimp only
        rw [readRecord_clean _ s hs.clean, if_pos hn, freeStack_clean n hs.clean, hfreed, hu]
      have hall : (if (es.filterMap id).length = 0 then u.unblockLanes
          else (freedEntries u.unblockLanes es).unblockLanes) = (freedEntries u es).unblockLanes := by
        split
        next hnone => rw [freedEntries_void (List.length_eq_zero_iff.mp hnone)]
        next =>
          have hkept : ((freedEntries u es).stack n).state = .free := by
            rw [stack_image (freedEntries u es) n (by exact hsu.damaged), freedEntries_record, ← stack_image u n hsu.damaged]
            split
            · rfl
            · exact hfree
          exact unblockLanes_again (u := u) (w := freedEntries u es) rfl fun l =>
            newRecordBlock_congr l hfree hkept (pile_freedEntries hsu.damaged hstack l).symm
      have hcount : (some n :: es).countP Option.isNone = es.countP Option.isNone := List.countP_cons_of_neg nofun
      have hlength : ((some n :: es).filterMap id).length = (es.filterMap id).length + 1 := rfl
      rw [List.foldl_cons, hstep, ih (s := u.unblockLanes) ⟨hsu.clean, hsu.power, hsu.damaged⟩ hstack hrest, hall, hcount,
        hlength, if_neg (Nat.succ_ne_zero _), freedEntries_some, hset, Nat.add_assoc, Nat.add_comm 1]

/-- R154: STACK RETIRE with the ALL option empties the queue. -/
theorem stackRetireAllRule_sound {s : State} (hs : s.sound)
    (hes : ∀ n, some n ∈ s.queue.entries → (s.stack n).state = .delivered)
    (honce : (s.queue.entries.filterMap id).Nodup) {k v : Nat} {t : State}
    (hk : k = (s.queue.entries.filterMap id).length) (hv : v = s.queue.entries.countP Option.isNone)
    (ht : t = { freedEntries s s.queue.entries with queue := { s.queue with entries := [] } }) :
    stackRetireAllRule s = reply (State.grant (if k = 0 then t else t.unblockLanes)) [byteOf k, byteOf v] := by
  have hfold := foldl_retireEntry hs hes honce 0 0
  rw [Nat.zero_add, Nat.zero_add, ← hk, ← hv] at hfold
  rw [stackRetireAllRule, hfold]
  dsimp only
  congr 2
  split
  next hnone =>
    rw [ht, freedEntries_void (List.length_eq_zero_iff.mp (hk.symm.trans hnone))]
  next =>
    rw [ht]
    rfl

/-! ### The statement, command by command -/

/-- Settles O47. -/
theorem takenAndRetireFreeStacks : Obligations.TakenAndRetireFreeStacks := by
  refine ⟨fun s => ⟨fun h => ?stray, fun rest h => ?void, fun n rest h => ⟨fun hp => ?power, fun hs hd => ?taken⟩⟩,
    fun s b hs => ⟨fun hb => ?range, fun n hb => ⟨fun hd => ⟨fun h => ?notHead, fun rest h => ?head⟩,
      fun c hq => ⟨fun h => ?awaited, fun ht ha => ?quarantined⟩, fun hd hq => ?other⟩⟩,
    fun s n b hp _ hb hq ht ha t htdef => ?marked, fun s b hs hes honce k v t hk hv htdef => ?all⟩
  case stray => rw [exec_taken, takeTaken_stray h]; rfl
  case void => rw [exec_taken, takeTaken_void h, dropHead_eq h]
  case power => rw [exec_taken, takeTaken_power h hp]
  case taken => rw [exec_taken, takeTaken_delivered h hs hd]
  case range =>
    refine congrArg Host.Outcome.next (request_refuses (by exact hs.power) ?_)
    rw [stackRetireRule, indexArg_none hb]
  case notHead =>
    refine congrArg Host.Outcome.next (request_refuses (by exact hs.power) ?_)
    rw [stackRetireRule_delivered hb (by exact hd)]
    exact retireDelivered_notHead h
  case head =>
    have hrule := retireDelivered_head (s := { s.framed 2 with port := .building })
      ⟨hs.clean, hs.power, hs.damaged⟩ hd h
    rw [← stackRetireRule_delivered hb (by exact hd)] at hrule
    have hanswer := request_replies (s := s.framed 2) hs.power hrule
    exact congrArg Host.Outcome.next hanswer
  case awaited =>
    refine congrArg Host.Outcome.next (request_refuses (by exact hs.power) ?_)
    rw [stackRetireRule_quarantined hb (by exact hq)]
    exact retireQuarantined_held h
  case quarantined =>
    have hrule := retireQuarantined_taken (s := { s.framed 2 with port := .building }) (n := n) ht ha
      (readRecord_clean _ _ hs.clean)
    rw [← stackRetireRule_quarantined hb (by exact hq), freeStack_quarantined (by exact hs.clean) (by exact hq)] at hrule
    have hanswer := request_replies (s := s.framed 2) hs.power hrule
    exact congrArg Host.Outcome.next hanswer
  case other =>
    exact congrArg Host.Outcome.next (request_refuses (by exact hs.power)
      (stackRetireRule_other hb (by exact hd) (by exact hq)))
  case marked =>
    subst htdef
    have hrule := retireQuarantined_taken (s := { s.framed 2 with port := .building }) (n := n) ht ha
      (readRecord_damaged _ _ (isDamaged_of_quarantined (by exact hq)))
    rw [← stackRetireRule_quarantined hb (by exact hq), freeStack_marked (by exact hq)] at hrule
    have hanswer := request_replies (s := s.framed 2) hp hrule
    exact congrArg Host.Outcome.next hanswer
  case all =>
    have hrule := stackRetireAllRule_sound (s := { s.framed 2 with port := .building })
      ⟨hs.clean, hs.power, hs.damaged⟩ hes honce hk hv htdef
    exact congrArg Host.Outcome.next (request_replies (s := s.framed 2) hs.power hrule)

end Sys2Proof.Proofs
end

section
/-! SUPPORT. Steps 4 of the reset sequence, lane by lane: what the seal, the completions and the push of R139 make of the
stack records of one lane, on a clean image with no lane BLOCKED. -/

namespace Sys2Proof.Proofs

open Sys2Proof Sys2Proof.Machine Sys2Proof.Laws

/-! ### Records and outputs alone (R139) -/

/-- A sound part in which no lane is BLOCKED, as it stands during step 4 of a reset. -/
structure Restoring (s : State) : Prop where
  sound : s.sound
  unblocked : ∀ (l : Lane) (c : BlockedCause), s.lanes[l].run ≠ .blocked c

/-- From `a` to `b` only stack records and the outputs changed. -/
structure RecordsMoved (a b : State) : Prop where
  rest : b = { a with memory := { a.memory with stackRecs := b.memory.stackRecs }, outputs := b.outputs }

theorem RecordsMoved.refl (a : State) : RecordsMoved a a := ⟨rfl⟩

theorem RecordsMoved.trans {a b c : State} (h : RecordsMoved a b) (k : RecordsMoved b c) : RecordsMoved a c := by
  constructor
  rw [k.rest, h.rest]

theorem RecordsMoved.restoring {a b : State} (h : RecordsMoved a b) (ha : Restoring a) : Restoring b := by
  rw [h.rest]
  exact ⟨⟨ha.sound.clean, ha.sound.power, ha.sound.damaged⟩, ha.unblocked⟩

/-- R89: with no lane BLOCKED the test of the BLOCKED lanes changes nothing. -/
theorem unblockLanes_unblocked {s : State} (h : ∀ (l : Lane) (c : BlockedCause), s.lanes[l].run ≠ .blocked c) :
    s.unblockLanes = s := by
  have hlanes : s.unblockLanes.lanes = s.lanes := vector_ext fun l => by
    rw [unblockLanes_run, runAfterUnblock_stays _ (h l)]
  show ({ s with lanes := s.unblockLanes.lanes } : State) = s
  rw [hlanes]

/-- What a reader finds after one record was written. -/
theorem stack_written_sound {s : State} (hs : s.sound) (n m : StackNo) (r : StackRecord) :
    (s.setStack n r).stack m = if n = m then r else s.stack m := by
  rw [stack_setStack]
  have hno : s.inDamagedSet (.stack n) = false := by simp [State.inDamagedSet, hs.damaged]
  simp only [hno, and_true]

/-! ### The record of a lane in a state (R117) -/

theorem laneStack_iff_ne_none {s : State} {l : Lane} {st : StackState} :
    s.laneStack l st ≠ none ↔ ∃ n, (s.stack n).state = st ∧ (s.stack n).lane = l.val + 1 := by
  rw [ne_eq, laneStack_none, Classical.not_forall_not]
  rfl

/-- R117: the record found is the lowest-numbered of those that the lane holds in the state. -/
theorem laneStack_lowest {s : State} {l : Lane} {st : StackState} {n m : StackNo} (h : s.laneStack l st = some n)
    (hm : m < n) : ¬((s.stack m).state = st ∧ (s.stack m).lane = l.val + 1) := by
  obtain ⟨-, before, after, hsplit, hbefore⟩ := List.find?_eq_some_iff_append.mp h
  have hsorted := List.pairwise_lt_finRange 64
  have hmem := List.mem_finRange m
  rw [hsplit] at hsorted hmem
  obtain ⟨-, htail, -⟩ := List.pairwise_append.mp hsorted
  rcases List.mem_append.mp hmem with hm' | hm'
  · rintro ⟨hstate, hlane⟩
    have hno := hbefore m hm'
    simp [hstate, hlane, laneNumber] at hno
  · rcases List.mem_cons.mp hm' with rfl | hm'
    · exact absurd hm (Fin.lt_irrefl m)
    · exact absurd hm (Fin.lt_asymm ((List.pairwise_cons.mp htail).1 m hm'))

/-- R117: the lowest-numbered record that a lane holds in a state is the one found. -/
theorem laneStack_of_lowest {s : State} {l : Lane} {st : StackState} {n : StackNo} (hstate : (s.stack n).state = st)
    (hlane : (s.stack n).lane = l.val + 1)
    (hlow : ∀ m, m < n → ¬((s.stack m).state = st ∧ (s.stack m).lane = l.val + 1)) : s.laneStack l st = some n := by
  obtain ⟨k, hk⟩ := Option.ne_none_iff_exists'.mp (laneStack_iff_ne_none.mpr ⟨n, hstate, hlane⟩)
  have hnot : ¬n < k := fun hlt => laneStack_lowest hk hlt ⟨hstate, hlane⟩
  have hnot' : ¬k < n := fun hlt => hlow k hlt (laneStack_some hk)
  rw [hk, Fin.le_antisymm (Fin.not_lt.mp hnot) (Fin.not_lt.mp hnot')]

/-! ### The completions of one lane (R127, R139) -/

/-- A SEALED record of the lane with something landed on it: one that a completion moves to HELD or READY. -/
structure Moves (s : State) (l : Lane) (n : StackNo) : Prop where
  sealed : (s.stack n).state = .sealed
  lane : (s.stack n).lane = l.val + 1
  some : (s.stack n).committed ≠ 0

/-- R139, step 2: what the completion of the records `ns` of a lane, in ascending number, makes of `a`. -/
structure Completed (a : State) (l : Lane) (ns : List StackNo) (b : State) : Prop where
  moved : RecordsMoved a b
  stays : ∀ n, n ∉ ns ∨ ¬((a.stack n).state = .sealed ∧ (a.stack n).lane = l.val + 1) → b.stack n = a.stack n
  frees : ∀ n ∈ ns, (a.stack n).state = .sealed → (a.stack n).lane = l.val + 1 → (a.stack n).committed = 0 →
    b.stack n = { a.stack n with state := .free }
  holds : ∀ n ∈ ns, Moves a l n → (a.readyOf l ≠ none ∨ ∃ m ∈ ns, m < n ∧ Moves a l m) →
    b.stack n = piledRecord (a.stack n) .held
  readies : ∀ n ∈ ns, Moves a l n → a.readyOf l = none → (∀ m ∈ ns, Moves a l m → n ≤ m) →
    b.stack n = piledRecord (a.stack n) .ready
  occupied : b.readyOf l ≠ none ↔ a.readyOf l ≠ none ∨ ∃ m ∈ ns, Moves a l m
  quiet : a.readyOf l ≠ none ∨ (∀ m ∈ ns, ¬Moves a l m) → b.outputs = a.outputs
  pulses : a.readyOf l = none → (∃ m ∈ ns, Moves a l m) → b.outputs = .push l :: a.outputs

/-- R139: a record that is not SEALED in the lane is left alone. -/
theorem restoreComplete_stays {a : State} {l : Lane} {n : StackNo}
    (h : ¬((a.stack n).state = .sealed ∧ (a.stack n).lane = l.val + 1)) : a.restoreComplete l n = a := by
  rw [State.restoreComplete, if_neg]
  rintro ⟨-, hlane, hcomplete⟩
  exact h ⟨((complete_iff _).mp hcomplete).1, hlane⟩

/-- R139: a SEALED record of the lane whose counts add up is completed. -/
theorem restoreComplete_moves {a : State} {l : Lane} {n : StackNo} (hp : a.pfail = false)
    (hs : (a.stack n).state = .sealed) (hl : (a.stack n).lane = l.val + 1)
    (hsum : (a.stack n).landed + (a.stack n).lost = (a.stack n).committed) :
    a.restoreComplete l n = a.moveComplete n := if_pos ⟨hp, hl, (complete_iff _).mpr ⟨hs, hsum⟩⟩

/-- Writing a record in a state other than READY, in the place of one that was not READY, keeps the ready position. -/
theorem readyOf_setStack {a : State} (ha : a.sound) {l : Lane} {n : StackNo} {r : StackRecord}
    (hn : (a.stack n).state ≠ .ready) (hr : r.state ≠ .ready) :
    (a.setStack n r).readyOf l ≠ none ↔ a.readyOf l ≠ none := by
  rw [laneStack_iff_ne_none, laneStack_iff_ne_none]
  refine exists_congr fun m => ?_
  rw [stack_written_sound ha]
  split
  next hm =>
    subst hm
    exact iff_of_false (fun h => hr h.1) (fun h => hn h.1)
  next => rfl

/-- R139: the completion of one record of the lane. -/
theorem restoreComplete_one {a : State} (ha : Restoring a) {l : Lane} (n : StackNo)
    (hsum : (a.stack n).state = .sealed → (a.stack n).lane = l.val + 1 →
      (a.stack n).landed + (a.stack n).lost = (a.stack n).committed) :
    Completed a l [n] (a.restoreComplete l n) := by
  have hone {p : StackNo → Prop} : (∃ m ∈ [n], p m) ↔ p n := by simp only [List.mem_singleton, exists_eq_left]
  by_cases hin : (a.stack n).state = .sealed ∧ (a.stack n).lane = l.val + 1
  case neg =>
    have hno : ¬Moves a l n := fun h => hin ⟨h.sealed, h.lane⟩
    rw [restoreComplete_stays hin]
    refine ⟨.refl a, fun _ _ => rfl, ?_, ?_, ?_, ?_, fun _ => rfl, fun _ h => absurd (hone.mp h) hno⟩
    · intro m hm hs hl
      exact absurd ⟨List.mem_singleton.mp hm ▸ hs, List.mem_singleton.mp hm ▸ hl⟩ hin
    · exact fun m hm h => absurd (List.mem_singleton.mp hm ▸ h) hno
    · exact fun m hm h => absurd (List.mem_singleton.mp hm ▸ h) hno
    · rw [hone]
      exact (or_iff_left hno).symm
  case pos =>
    obtain ⟨hs, hl⟩ := hin
    have hnotReady : (a.stack n).state ≠ .ready := by rw [hs]; exact nofun
    have hstays {r : StackRecord} (m : StackNo)
        (hm : m ∉ [n] ∨ ¬((a.stack m).state = .sealed ∧ (a.stack m).lane = l.val + 1)) :
        (a.setStack n r).stack m = a.stack m := by
      rw [stack_written_sound ha.sound, if_neg]
      rintro rfl
      exact hm.elim (fun h => h (List.mem_singleton_self n)) (fun h => h ⟨hs, hl⟩)
    have hnow {r : StackRecord} : (a.setStack n r).stack n = r := by rw [stack_written_sound ha.sound, if_pos rfl]
    rw [restoreComplete_moves ha.sound.power hs hl (hsum hs hl)]
    by_cases hzero : (a.stack n).committed = 0
    · have hno : ¬Moves a l n := fun h => h.some hzero
      have hset : a.moveComplete n = a.setStack n { a.stack n with state := .free } := by
        rw [moveComplete_frees hs hzero]
        exact unblockLanes_unblocked ha.unblocked
      rw [hset]
      refine ⟨⟨rfl⟩, hstays, ?_, ?_, ?_, ?_, fun _ => rfl, fun _ h => absurd (hone.mp h) hno⟩
      · intro m hm _ _ _
        rw [List.mem_singleton.mp hm]
        exact hnow
      · exact fun m hm h => absurd (List.mem_singleton.mp hm ▸ h) hno
      · exact fun m hm h => absurd (List.mem_singleton.mp hm ▸ h) hno
      · rw [readyOf_setStack ha.sound hnotReady (by exact nofun), hone]
        exact (or_iff_left hno).symm
    · have hmoves : Moves a l n := ⟨hs, hl, hzero⟩
      have hlower : ¬∃ m ∈ [n], m < n ∧ Moves a l m := by
        rw [hone]
        exact fun h => Fin.lt_irrefl n h.1
      by_cases hr : a.readyOf l = none
      · have hpush := moveComplete_readies hzero hl hr
        rw [hpush]
        refine ⟨⟨rfl⟩, hstays, ?_, ?_, ?_, ?_, fun h => ?_, fun _ _ => rfl⟩
        · intro m hm _ _ h
          exact absurd (List.mem_singleton.mp hm ▸ h) hzero
        · intro m hm _ h
          rw [List.mem_singleton.mp hm] at h
          exact absurd h (not_or.mpr ⟨fun hn => hn hr, hlower⟩)
        · intro m hm _ _ _
          rw [List.mem_singleton.mp hm]
          exact hnow
        · refine iff_of_true (laneStack_iff_ne_none.mpr ⟨n, ?_⟩) (.inr (hone.mpr hmoves))
          show ((a.setStack n _).stack n).state = _ ∧ ((a.setStack n _).stack n).lane = _
          rw [hnow]
          exact ⟨rfl, hl⟩
        · exact absurd h (not_or.mpr ⟨fun hn => hn hr, fun hn => hn n (List.mem_singleton_self n) hmoves⟩)
      · rw [moveComplete_holds hzero hl hr]
        refine ⟨⟨rfl⟩, hstays, ?_, ?_, fun _ _ _ h => absurd h hr, ?_, fun _ => rfl, fun h => absurd h hr⟩
        · intro m hm _ _ h
          exact absurd (List.mem_singleton.mp hm ▸ h) hzero
        · intro m hm _ _
          rw [List.mem_singleton.mp hm]
          exact hnow
        · rw [readyOf_setStack ha.sound hnotReady (by exact nofun)]
          exact (or_iff_left_of_imp fun _ => hr).symm

/-- R139: the completion of one record and then of those with higher numbers. -/
theorem Completed.cons {a b c : State} {l : Lane} {n : StackNo} {ns : List StackNo} (hn : ∀ m ∈ ns, n < m)
    (h : Completed a l [n] b) (k : Completed b l ns c) : Completed a l (n :: ns) c := by
  have hself : n ∈ [n] := List.mem_singleton_self n
  have hlater (m : StackNo) (hm : m ∈ ns) : b.stack m = a.stack m :=
    h.stays m (.inl fun hin => absurd (List.mem_singleton.mp hin) (Fin.ne_of_gt (hn m hm)))
  have hfresh : n ∉ ns := fun hin => Fin.lt_irrefl n (hn n hin)
  have hmoves (m : StackNo) (hm : m ∈ ns) : Moves b l m ↔ Moves a l m := by
    have hsame := hlater m hm
    exact ⟨fun hb => ⟨hsame ▸ hb.sealed, hsame ▸ hb.lane, hsame ▸ hb.some⟩,
      fun ha => ⟨hsame ▸ ha.sealed, hsame ▸ ha.lane, hsame ▸ ha.some⟩⟩
  have hready : b.readyOf l ≠ none ↔ a.readyOf l ≠ none ∨ Moves a l n := by
    rw [h.occupied]
    simp only [List.mem_singleton, exists_eq_left]
  have hsome : (∃ m ∈ ns, Moves b l m) ↔ ∃ m ∈ ns, Moves a l m :=
    exists_congr fun m => and_congr_right fun hm => hmoves m hm
  refine ⟨h.moved.trans k.moved, fun m hm => ?stays, fun m hm hs hl hz => ?frees, fun m hm hmv hocc => ?holds,
    fun m hm hmv hnone hlow => ?readies, ?occupied, fun hq => ?quiet, fun hnone hex => ?pulses⟩
  case stays =>
    by_cases hmn : m = n
    · subst hmn
      rw [k.stays m (.inl hfresh)]
      exact h.stays m (hm.imp_left fun hno => absurd List.mem_cons_self hno)
    · have hsame : b.stack m = a.stack m := h.stays m (.inl fun hin => hmn (List.mem_singleton.mp hin))
      rw [k.stays m (hm.imp (fun hno hin => hno (List.mem_cons_of_mem n hin)) fun hno => hsame ▸ hno), hsame]
  case frees =>
    rcases List.mem_cons.mp hm with rfl | hm
    · rw [k.stays m (.inl hfresh)]
      exact h.frees m hself hs hl hz
    · have hsame := hlater m hm
      rw [k.frees m hm (hsame ▸ hs) (hsame ▸ hl) (hsame ▸ hz), hsame]
  case holds =>
    rcases List.mem_cons.mp hm with rfl | hm
    · rw [k.stays m (.inl hfresh)]
      refine h.holds m hself hmv (hocc.imp_right ?_)
      rintro ⟨q, hq, hlt, -⟩
      rcases List.mem_cons.mp hq with rfl | hq
      · exact absurd hlt (Fin.lt_irrefl q)
      · exact absurd hlt (Fin.lt_asymm (hn q hq))
    · rw [k.holds m hm ((hmoves m hm).mpr hmv) ?_, hlater m hm]
      rcases hocc with hocc | ⟨q, hq, hlt, hqm⟩
      · exact .inl (hready.mpr (.inl hocc))
      · rcases List.mem_cons.mp hq with rfl | hq
        · exact .inl (hready.mpr (.inr hqm))
        · exact .inr ⟨q, hq, hlt, (hmoves q hq).mpr hqm⟩
  case readies =>
    rcases List.mem_cons.mp hm with rfl | hm
    · rw [k.stays m (.inl hfresh)]
      exact h.readies m hself hmv hnone fun q hq _ => Fin.le_of_eq (List.mem_singleton.mp hq).symm
    · have hnot : ¬Moves a l n := fun hnm => absurd (hn m hm) (Fin.not_lt.mpr (hlow n List.mem_cons_self hnm))
      have hnone' : b.readyOf l = none := by
        refine Classical.byContradiction fun hne => ?_
        exact (hready.mp hne).elim (fun hne => hne hnone) hnot
      rw [k.readies m hm ((hmoves m hm).mpr hmv) hnone' fun q hq hqm =>
        hlow q (List.mem_cons_of_mem n hq) ((hmoves q hq).mp hqm), hlater m hm]
  case occupied =>
    rw [k.occupied, hready, hsome, or_assoc]
    simp only [List.mem_cons, exists_eq_or_imp]
  case quiet =>
    have hb : b.readyOf l ≠ none ∨ ∀ m ∈ ns, ¬Moves b l m := by
      rcases hq with hq | hq
      · exact .inl (hready.mpr (.inl hq))
      · exact .inr fun m hm hmv => hq m (List.mem_cons_of_mem n hm) ((hmoves m hm).mp hmv)
    rw [k.quiet hb]
    exact h.quiet (hq.imp_right fun hq m hm => List.mem_singleton.mp hm ▸ hq n List.mem_cons_self)
  case pulses =>
    by_cases hnm : Moves a l n
    · rw [k.quiet (.inl (hready.mpr (.inr hnm)))]
      exact h.pulses hnone ⟨n, hself, hnm⟩
    · have hnone' : b.readyOf l = none := by
        refine Classical.byContradiction fun hne => ?_
        exact (hready.mp hne).elim (fun hne => hne hnone) hnm
      have hex' : ∃ m ∈ ns, Moves b l m := by
        obtain ⟨m, hm, hmv⟩ := hex
        rcases List.mem_cons.mp hm with rfl | hm
        · exact absurd hmv hnm
        · exact ⟨m, hm, (hmoves m hm).mpr hmv⟩
      rw [k.pulses hnone' hex', h.quiet (.inr fun m hm => List.mem_singleton.mp hm ▸ hnm)]

/-- R139, step 2: the completions of a lane, in ascending stack number. -/
theorem foldl_restoreComplete {a : State} (ha : Restoring a) (l : Lane) {ns : List StackNo}
    (hns : ns.Pairwise (· < ·))
    (hsum : ∀ n ∈ ns, (a.stack n).state = .sealed → (a.stack n).lane = l.val + 1 →
      (a.stack n).landed + (a.stack n).lost = (a.stack n).committed) :
    Completed a l ns (ns.foldl (fun t n => t.restoreComplete l n) a) := by
  induction ns generalizing a with
  | nil =>
    refine ⟨.refl a, fun _ _ => rfl, nofun, nofun, nofun, ?_, fun _ => rfl, nofun⟩
    simp only [List.foldl_nil, List.not_mem_nil, false_and, exists_false, or_false]
  | cons n ns ih =>
    obtain ⟨hfirst, hrest⟩ := List.pairwise_cons.mp hns
    have hone := restoreComplete_one ha (l := l) n (hsum n List.mem_cons_self)
    refine hone.cons hfirst (ih (hone.moved.restoring ha) hrest fun m hm => ?_)
    rw [hone.stays m (.inl fun hin => absurd (List.mem_singleton.mp hin) (Fin.ne_of_gt (hfirst m hm)))]
    exact hsum m (List.mem_cons_of_mem n hm)

/-! ### The three steps of one lane (R139) -/

/-- R139, step 1: the record that the damage mark of its lane's record has sealed with LANE_OFF. -/
def LaneOff (a : State) (l : Lane) (n : StackNo) : Prop := a.isDamaged (.lane l) = true ∧ a.openOf l = some n

/-- The record of a lane that step 1 of R139 seals with LANE_OFF. -/
def sealedOff (r : StackRecord) : StackRecord := { r with state := .sealed, sealReason := some .laneOff }

theorem LaneOff.opened {a : State} {l : Lane} {n : StackNo} (h : LaneOff a l n) :
    (a.stack n).state = .opened ∧ (a.stack n).lane = l.val + 1 := laneStack_some h.2

/-- R139, step 1: what the records are after the seal. -/
theorem restoreSeal_moved {a : State} (ha : a.sound) (l : Lane) :
    RecordsMoved a (a.restoreSeal l) ∧ (a.restoreSeal l).outputs = a.outputs ∧
      ∀ n, (LaneOff a l n → (a.restoreSeal l).stack n = sealedOff (a.stack n)) ∧
        (¬LaneOff a l n → (a.restoreSeal l).stack n = a.stack n) := by
  unfold State.restoreSeal
  split
  next hdam =>
    split
    next hnone =>
      exact ⟨.refl a, rfl, fun n => ⟨fun h => (nomatch hnone.symm.trans h.2), fun _ => rfl⟩⟩
    next m hm =>
      refine ⟨⟨rfl⟩, rfl, fun n => ⟨fun h => ?_, fun h => ?_⟩⟩
      · obtain rfl : m = n := Option.some.inj (hm.symm.trans h.2)
        rw [stack_written_sound ha, if_pos rfl]
        rfl
      · rw [stack_written_sound ha, if_neg]
        rintro rfl
        exact h ⟨hdam.2, hm⟩
  next hdam =>
    exact ⟨.refl a, rfl, fun n => ⟨fun h => (hdam ⟨ha.power, h.1⟩).elim, fun _ => rfl⟩⟩

/-- A record that the lane holds READY or HELD. -/
def Holds (a : State) (l : Lane) (st : StackState) (n : StackNo) : Prop :=
  (a.stack n).state = st ∧ (a.stack n).lane = l.val + 1

/-- A record of the lane that step 2 of R139 moves to HELD or READY: sealed, or sealed with LANE_OFF, with a label landed. -/
def Lands (a : State) (l : Lane) (n : StackNo) : Prop :=
  ((a.stack n).state = .sealed ∨ LaneOff a l n) ∧ (a.stack n).lane = l.val + 1 ∧ (a.stack n).committed ≠ 0

/-- R139, steps 1 and 2: what the seal and the completions of lane `l` make of `a`. -/
structure LaneCompleted (a : State) (l : Lane) (c : State) : Prop where
  moved : RecordsMoved a c
  keeps : ∀ n, ¬(((a.stack n).state = .sealed ∨ LaneOff a l n) ∧ (a.stack n).lane = l.val + 1) → c.stack n = a.stack n
  frees : ∀ n, (a.stack n).lane = l.val + 1 → (a.stack n).state = .sealed ∨ LaneOff a l n → (a.stack n).committed = 0 →
    c.stack n = { (a.restoreSeal l).stack n with state := .free }
  holds : ∀ n, Lands a l n → (∃ m, Holds a l .ready m ∨ Lands a l m ∧ m < n) →
    c.stack n = piledRecord ((a.restoreSeal l).stack n) .held
  readies : ∀ n, Lands a l n → (∀ m, ¬Holds a l .ready m ∧ (Lands a l m → n ≤ m)) →
    c.stack n = piledRecord ((a.restoreSeal l).stack n) .ready
  lanes : ∀ n, (c.stack n).lane = (a.stack n).lane
  occupied : c.readyOf l ≠ none ↔ ∃ m, Holds a l .ready m ∨ Lands a l m
  pulses : (∀ m, ¬Holds a l .ready m) → (∃ m, Lands a l m) → c.outputs = .push l :: a.outputs
  quiet : (∃ m, Holds a l .ready m) ∨ (∀ m, ¬Lands a l m) → c.outputs = a.outputs

/-- R139: what the three steps of lane `l` make of the records of that lane in `a`. -/
structure LaneRecords (a : State) (l : Lane) (b : State) : Prop where
  keeps : ∀ n, (a.stack n).lane = l.val + 1 → (a.stack n).state ≠ .sealed → (a.stack n).state ≠ .held → ¬LaneOff a l n →
    b.stack n = a.stack n
  heldStays : ∀ n, Holds a l .held n → (∃ m, Holds a l .ready m ∨ Lands a l m) → b.stack n = a.stack n
  heldPushed : ∀ n, Holds a l .held n → (∀ m, ¬Holds a l .ready m ∧ ¬Lands a l m) → (∀ m, m < n → ¬Holds a l .held m) →
    b.stack n = { a.stack n with state := .ready }
  frees : ∀ n, (a.stack n).lane = l.val + 1 → (a.stack n).state = .sealed ∨ LaneOff a l n → (a.stack n).committed = 0 →
    b.stack n = { (a.restoreSeal l).stack n with state := .free }
  holds : ∀ n, Lands a l n → (∃ m, Holds a l .ready m ∨ Lands a l m ∧ m < n) →
    b.stack n = piledRecord ((a.restoreSeal l).stack n) .held
  readies : ∀ n, Lands a l n → (∀ m, ¬Holds a l .ready m ∧ (Lands a l m → n ≤ m)) →
    b.stack n = piledRecord ((a.restoreSeal l).stack n) .ready

/-- R128, R139: the lane is left with a READY record that it did not have. -/
def Pushes (a : State) (l : Lane) : Prop := (∀ m, ¬Holds a l .ready m) ∧ ∃ m, Lands a l m ∨ Holds a l .held m

/-- R139: what the three steps of lane `l` make of `a`. -/
structure LaneRestored (a : State) (l : Lane) (b : State) : Prop where
  moved : RecordsMoved a b
  others : ∀ n, (a.stack n).lane ≠ l.val + 1 → b.stack n = a.stack n
  lanes : ∀ n, (b.stack n).lane = (a.stack n).lane
  records : LaneRecords a l b
  pulses : Pushes a l → b.outputs = .push l :: a.outputs
  quiet : ¬Pushes a l → b.outputs = a.outputs

section
variable {a c : State} {l : Lane} (hc : LaneCompleted a l c)
include hc

/-- A record that is HELD before the completions is left alone by them. -/
theorem LaneCompleted.keeps_held {n : StackNo} (h : (a.stack n).state = .held) : c.stack n = a.stack n := by
  refine hc.keeps n fun hmoves => ?_
  rcases hmoves.1 with hs | hoff
  · exact nomatch h.symm.trans hs
  · exact nomatch h.symm.trans hoff.opened.1

/-- With no completion to HELD or READY, the records that are HELD after the completions were so before. -/
theorem LaneCompleted.held_iff (hno : ∀ m, ¬Lands a l m) (n : StackNo) :
    Holds c l .held n ↔ Holds a l .held n := by
  constructor
  · rintro ⟨hstate, hlane⟩
    have hl : (a.stack n).lane = l.val + 1 := (hc.lanes n).symm.trans hlane
    by_cases hmoves : (a.stack n).state = .sealed ∨ LaneOff a l n
    · by_cases hzero : (a.stack n).committed = 0
      · rw [hc.frees n hl hmoves hzero] at hstate
        exact nomatch hstate
      · exact absurd ⟨hmoves, hl, hzero⟩ (hno n)
    · rw [hc.keeps n fun h => hmoves h.1] at hstate
      exact ⟨hstate, hl⟩
  · rintro ⟨hstate, hlane⟩
    unfold Holds
    rw [hc.keeps_held hstate]
    exact ⟨hstate, hlane⟩

theorem LaneCompleted.others (n : StackNo) (hl : (a.stack n).lane ≠ l.val + 1) : c.stack n = a.stack n :=
  hc.keeps n fun h => hl h.2

/-- R128, R139: the three steps when the lane holds no HELD record, or its ready position is occupied. -/
theorem LaneCompleted.restored_stays (h : c.heldOf l = none ∨ c.readyOf l ≠ none) : LaneRestored a l c := by
  have hnoHeld (hno : ∀ m, ¬Holds a l .ready m) (hnl : ∀ m, ¬Lands a l m) (n : StackNo) : ¬Holds a l .held n := by
    intro hn
    have hfree : ¬c.readyOf l ≠ none := by
      rw [hc.occupied]
      exact fun ⟨m, hm⟩ => hm.elim (hno m) (hnl m)
    exact laneStack_none.mp (h.resolve_right hfree) n ((hc.held_iff hnl n).mpr hn)
  refine ⟨hc.moved, hc.others, hc.lanes, ⟨fun n _ hs _ ho => hc.keeps n fun hm => hm.1.elim hs ho,
    fun n hn _ => hc.keeps_held hn.1, fun n hn hno _ => ?_, hc.frees, hc.holds, hc.readies⟩, fun ⟨hno, hex⟩ => ?_,
    fun hq => hc.quiet ?_⟩
  · exact absurd hn (hnoHeld (fun m => (hno m).1) (fun m => (hno m).2) n)
  · by_cases hlands : ∃ m, Lands a l m
    · exact hc.pulses hno hlands
    · have hnl := not_exists.mp hlands
      obtain ⟨m, hm⟩ := hex
      exact absurd (hm.resolve_left (hnl m)) (hnoHeld hno hnl m)
  · by_cases hready : ∃ m, Holds a l .ready m
    · exact .inl hready
    · exact .inr fun m hm => hq ⟨not_exists.mp hready, m, .inl hm⟩

/-- R128, R139: the three steps when a HELD record takes the ready position. -/
theorem LaneCompleted.restored_pushes (hs : c.sound) {k : StackNo} (hk : c.heldOf l = some k)
    (hr : c.readyOf l = none) :
    LaneRestored a l ((c.setStack k { c.stack k with state := .ready }).emit (.push l)) := by
  have hno : ∀ m, ¬Holds a l .ready m ∧ ¬Lands a l m := by
    intro m
    exact ⟨fun h => hc.occupied.mpr ⟨m, .inl h⟩ hr, fun h => hc.occupied.mpr ⟨m, .inr h⟩ hr⟩
  have hnl := fun m => (hno m).2
  have hheld : Holds a l .held k := (hc.held_iff hnl k).mp (laneStack_some hk)
  have hstack (n : StackNo) : ((c.setStack k { c.stack k with state := .ready }).emit (.push l)).stack n =
      if k = n then { c.stack k with state := .ready } else c.stack n := stack_written_sound hs k n _
  have hother {n : StackNo} (hne : ¬Holds a l .held n) :
      ((c.setStack k { c.stack k with state := .ready }).emit (.push l)).stack n = c.stack n := by
    rw [hstack, if_neg]
    rintro rfl
    exact hne hheld
  refine ⟨hc.moved.trans ⟨rfl⟩, fun n hl => ?others, fun n => ?lanes, ⟨fun n _ hns hnh ho => ?keeps,
    fun n _ hex => ?heldStays, fun n hn _ hlow => ?heldPushed, fun n hl hm hz => ?frees,
    fun n h => absurd h (hnl n), fun n h => absurd h (hnl n)⟩, fun _ => ?pulses, fun hq => ?quiet⟩
  case others => rw [hother fun h => hl h.2, hc.others n hl]
  case lanes =>
    rw [hstack, ← hc.lanes n]
    split
    next hkn => rw [← hkn]
    next => rfl
  case keeps => rw [hother fun h => hnh h.1, hc.keeps n fun hm => hm.1.elim hns ho]
  case heldStays =>
    obtain ⟨m, hm⟩ := hex
    exact absurd hm (not_or.mpr (hno m))
  case heldPushed =>
    have hnk : ¬k < n := fun hlt => hlow k hlt hheld
    have hkn : ¬n < k := fun hlt => laneStack_lowest hk hlt ((hc.held_iff hnl n).mpr hn)
    obtain rfl : k = n := Fin.le_antisymm (Fin.not_lt.mp hkn) (Fin.not_lt.mp hnk)
    rw [hstack, if_pos rfl, hc.keeps_held hn.1]
  case frees =>
    have hne : ¬Holds a l .held n := by
      rintro ⟨hheld, -⟩
      rcases hm with hs | ho
      · exact nomatch hheld.symm.trans hs
      · exact nomatch hheld.symm.trans ho.opened.1
    rw [hother hne, hc.frees n hl hm hz]
  case pulses => exact congrArg (List.cons _) (hc.quiet (.inr hnl))
  case quiet => exact absurd ⟨fun m => (hno m).1, k, .inr hheld⟩ hq

end

section
variable {a : State} (ha : Restoring a) (l : Lane)
include ha

/-- The seal touches neither lane numbers nor counts nor the ready position. -/
theorem restoreSeal_stack (n : StackNo) :
    ((a.restoreSeal l).stack n).lane = (a.stack n).lane ∧
      ((a.restoreSeal l).stack n).committed = (a.stack n).committed ∧
      ((a.restoreSeal l).stack n).landed = (a.stack n).landed ∧ ((a.restoreSeal l).stack n).lost = (a.stack n).lost := by
  obtain ⟨-, -, hstack⟩ := restoreSeal_moved ha.sound l
  by_cases h : LaneOff a l n
  · rw [(hstack n).1 h]
    exact ⟨rfl, rfl, rfl, rfl⟩
  · rw [(hstack n).2 h]
    exact ⟨rfl, rfl, rfl, rfl⟩

theorem restoreSeal_sealed (n : StackNo) :
    ((a.restoreSeal l).stack n).state = .sealed ↔ (a.stack n).state = .sealed ∨ LaneOff a l n := by
  obtain ⟨-, -, hstack⟩ := restoreSeal_moved ha.sound l
  by_cases h : LaneOff a l n
  · rw [(hstack n).1 h]
    exact iff_of_true rfl (.inr h)
  · rw [(hstack n).2 h]
    exact (or_iff_left h).symm

theorem restoreSeal_holds (n : StackNo) {st : StackState} (hs : st ≠ .sealed) (ho : st ≠ .opened) :
    Holds (a.restoreSeal l) l st n ↔ Holds a l st n := by
  obtain ⟨-, -, hstack⟩ := restoreSeal_moved ha.sound l
  unfold Holds
  by_cases h : LaneOff a l n
  · rw [(hstack n).1 h]
    exact iff_of_false (fun hr => hs hr.1.symm) fun hr => ho (hr.1.symm.trans h.opened.1)
  · rw [(hstack n).2 h]

theorem restoreSeal_moves (n : StackNo) : Moves (a.restoreSeal l) l n ↔ Lands a l n := by
  obtain ⟨hlane, hcommitted, -, -⟩ := restoreSeal_stack ha l n
  constructor
  · exact fun h => ⟨(restoreSeal_sealed ha l n).mp h.sealed, hlane ▸ h.lane, hcommitted ▸ h.some⟩
  · rintro ⟨hs, hl, hc⟩
    exact ⟨(restoreSeal_sealed ha l n).mpr hs, hlane.trans hl, hcommitted ▸ hc⟩

/-- R139, steps 1 and 2, when the counts of the SEALED and OPEN records add up. -/
theorem laneCompleted
    (hsum : ∀ n, (a.stack n).lane = l.val + 1 → (a.stack n).state = .sealed ∨ (a.stack n).state = .opened →
      (a.stack n).landed + (a.stack n).lost = (a.stack n).committed) :
    LaneCompleted a l ((List.finRange 64).foldl (fun t n => t.restoreComplete l n) (a.restoreSeal l)) := by
  obtain ⟨hsealed, hsealedOut, hsealedStack⟩ := restoreSeal_moved ha.sound l
  have hc : Completed (a.restoreSeal l) l (List.finRange 64)
      ((List.finRange 64).foldl (fun t n => t.restoreComplete l n) (a.restoreSeal l)) := by
    refine foldl_restoreComplete (hsealed.restoring ha) l (List.pairwise_lt_finRange 64) fun n _ hs hl => ?_
    obtain ⟨hlane, hcommitted, hlanded, hlost⟩ := restoreSeal_stack ha l n
    rw [hcommitted, hlanded, hlost]
    exact hsum n (hlane.symm.trans hl) (((restoreSeal_sealed ha l n).mp hs).imp_right fun h => h.opened.1)
  generalize (List.finRange 64).foldl (fun t n => t.restoreComplete l n) (a.restoreSeal l) = c at hc
  have hall (n : StackNo) : n ∈ List.finRange 64 := List.mem_finRange n
  have hmoves := restoreSeal_moves ha l
  have hready : (a.restoreSeal l).readyOf l ≠ none ↔ ∃ m, Holds a l .ready m := by
    rw [laneStack_iff_ne_none]
    exact exists_congr fun m => restoreSeal_holds ha l m nofun nofun
  have hnone : (a.restoreSeal l).readyOf l = none ↔ ∀ m, ¬Holds a l .ready m := by
    rw [← not_exists, ← hready, ne_eq, Classical.not_not]
  have hkeeps : ∀ n, ¬(((a.stack n).state = .sealed ∨ LaneOff a l n) ∧ (a.stack n).lane = l.val + 1) →
      c.stack n = a.stack n := by
    intro n hno
    have hnotOff : ¬LaneOff a l n := fun ho => hno ⟨.inr ho, ho.opened.2⟩
    rw [hc.stays n (.inr ?_), (hsealedStack n).2 hnotOff]
    rw [restoreSeal_sealed ha l n, (restoreSeal_stack ha l n).1]
    exact hno
  have hfrees : ∀ n, (a.stack n).lane = l.val + 1 → (a.stack n).state = .sealed ∨ LaneOff a l n →
      (a.stack n).committed = 0 → c.stack n = { (a.restoreSeal l).stack n with state := .free } := by
    intro n hl hs hz
    obtain ⟨hlane, hcommitted, -, -⟩ := restoreSeal_stack ha l n
    exact hc.frees n (hall n) ((restoreSeal_sealed ha l n).mpr hs) (hlane.trans hl) (hcommitted.trans hz)
  have hholds : ∀ n, Lands a l n → (∃ m, Holds a l .ready m ∨ Lands a l m ∧ m < n) →
      c.stack n = piledRecord ((a.restoreSeal l).stack n) .held := by
    rintro n hn ⟨m, hm⟩
    refine hc.holds n (hall n) ((hmoves n).mpr hn) (hm.imp (fun hm => hready.mpr ⟨m, hm⟩) fun hm => ?_)
    exact ⟨m, hall m, hm.2, (hmoves m).mpr hm.1⟩
  have hreadies : ∀ n, Lands a l n → (∀ m, ¬Holds a l .ready m ∧ (Lands a l m → n ≤ m)) →
      c.stack n = piledRecord ((a.restoreSeal l).stack n) .ready := fun n hn hfirst =>
    hc.readies n (hall n) ((hmoves n).mpr hn) (hnone.mpr fun m => (hfirst m).1) fun m _ hm =>
      (hfirst m).2 ((hmoves m).mp hm)
  refine ⟨hsealed.trans hc.moved, hkeeps, hfrees, hholds, hreadies, fun n => ?lanes, ?occupied, fun hno hex => ?pulses,
    fun hq => ?quiet⟩
  case lanes =>
    rw [← (restoreSeal_stack ha l n).1]
    by_cases hin : ((a.restoreSeal l).stack n).state = .sealed ∧ ((a.restoreSeal l).stack n).lane = l.val + 1
    · by_cases hz : ((a.restoreSeal l).stack n).committed = 0
      · rw [hc.frees n (hall n) hin.1 hin.2 hz]
      · have hmv : Moves (a.restoreSeal l) l n := ⟨hin.1, hin.2, hz⟩
        by_cases hocc : (a.restoreSeal l).readyOf l ≠ none ∨ ∃ m ∈ List.finRange 64, m < n ∧ Moves (a.restoreSeal l) l m
        · rw [hc.holds n (hall n) hmv hocc]
          rfl
        · obtain ⟨hfree, hfirst⟩ := not_or.mp hocc
          rw [hc.readies n (hall n) hmv (Classical.not_not.mp hfree) fun m hm hmm =>
            Fin.not_lt.mp fun hlt => hfirst ⟨m, hm, hlt, hmm⟩]
          rfl
    · rw [hc.stays n (.inr hin)]
  case occupied =>
    rw [hc.occupied, hready, exists_or]
    simp only [List.mem_finRange, true_and, hmoves]
  case pulses =>
    obtain ⟨m, hm⟩ := hex
    rw [hc.pulses (hnone.mpr hno) ⟨m, hall m, (hmoves m).mpr hm⟩, hsealedOut]
  case quiet =>
    rw [hc.quiet (hq.imp hready.mpr fun hq m _ hm => hq m ((hmoves m).mp hm)), hsealedOut]

/-- R139: the three steps of one lane, when the counts of its SEALED and OPEN records add up. -/
theorem restoreLane_restored
    (hsum : ∀ n, (a.stack n).lane = l.val + 1 → (a.stack n).state = .sealed ∨ (a.stack n).state = .opened →
      (a.stack n).landed + (a.stack n).lost = (a.stack n).committed) : LaneRestored a l (restoreLane a l) := by
  have hc := laneCompleted ha l hsum
  have hcs := (hc.moved.restoring ha).sound
  unfold restoreLane
  rw [restorePush_eq l ⟨hcs.clean, hcs.power⟩]
  generalize (List.finRange 64).foldl (fun t n => t.restoreComplete l n) (a.restoreSeal l) = c at hc hcs
  by_cases h : c.heldOf l = none ∨ c.readyOf l ≠ none
  · rw [pushHeld_stays h]
    exact hc.restored_stays h
  · obtain ⟨hheld, hready⟩ := not_or.mp h
    obtain ⟨k, hk⟩ := Option.ne_none_iff_exists'.mp hheld
    rw [pushHeld_pushes hcs.clean hk (Classical.not_not.mp hready)]
    exact hc.restored_pushes hcs hk (Classical.not_not.mp hready)

end

/-! ### The lanes one after the other (R139) -/

/-- Two states with the same records in a lane, whose seal by LANE_OFF they agree on. -/
structure SameLane (p : State) (l : Lane) (a : State) : Prop where
  moved : RecordsMoved p a
  lanes : ∀ n, (a.stack n).lane = (p.stack n).lane
  records : ∀ n, (p.stack n).lane = l.val + 1 → a.stack n = p.stack n

section
variable {p a : State} {l : Lane} (h : SameLane p l a)
include h

theorem SameLane.holds_iff (st : StackState) (n : StackNo) : Holds a l st n ↔ Holds p l st n := by
  unfold Holds
  rw [h.lanes n]
  exact and_congr_left fun hl => by rw [h.records n hl]

theorem SameLane.openOf_eq : a.openOf l = p.openOf l := by
  have hopen (n : StackNo) : ((a.stack n).state = .opened ∧ (a.stack n).lane = l.val + 1) ↔
      ((p.stack n).state = .opened ∧ (p.stack n).lane = l.val + 1) := h.holds_iff .opened n
  cases hp : p.openOf l with
  | none =>
    exact laneStack_none.mpr fun n hn => laneStack_none.mp hp n ((hopen n).mp hn)
  | some n =>
    obtain ⟨hstate, hlane⟩ := (hopen n).mpr (laneStack_some hp)
    exact laneStack_of_lowest hstate hlane fun m hm hno => laneStack_lowest hp hm ((hopen m).mp hno)

theorem SameLane.off_iff (n : StackNo) : LaneOff a l n ↔ LaneOff p l n := by
  have hdam : a.isDamaged (.lane l) = p.isDamaged (.lane l) := by
    rw [h.moved.rest]
    rfl
  unfold LaneOff
  rw [hdam, h.openOf_eq]

theorem SameLane.lands_iff (n : StackNo) : Lands a l n ↔ Lands p l n := by
  unfold Lands
  rw [h.off_iff, h.lanes n]
  refine ⟨fun ⟨hs, hl, hc⟩ => ?_, fun ⟨hs, hl, hc⟩ => ?_⟩
  · rw [h.records n hl] at hs hc
    exact ⟨hs, hl, hc⟩
  · rw [h.records n hl]
    exact ⟨hs, hl, hc⟩

theorem SameLane.pushes_iff : Pushes a l ↔ Pushes p l := by
  unfold Pushes
  simp only [h.holds_iff, h.lands_iff]

theorem SameLane.restoreSeal_eq (hp : p.sound) (ha : a.sound) {n : StackNo} (hn : (p.stack n).lane = l.val + 1) :
    (a.restoreSeal l).stack n = (p.restoreSeal l).stack n := by
  obtain ⟨-, -, hfrom⟩ := restoreSeal_moved ha l
  obtain ⟨-, -, hto⟩ := restoreSeal_moved hp l
  by_cases hoff : LaneOff p l n
  · rw [(hfrom n).1 ((h.off_iff n).mpr hoff), (hto n).1 hoff, h.records n hn]
  · rw [(hfrom n).2 (fun hno => hoff ((h.off_iff n).mp hno)), (hto n).2 hoff, h.records n hn]

/-- What a lane's steps make of its records depends on these alone. -/
theorem LaneRecords.of_sameLane {b c : State} (hp : p.sound) (ha : a.sound) (hb : LaneRecords a l b)
    (hc : ∀ n, (p.stack n).lane = l.val + 1 → c.stack n = b.stack n) : LaneRecords p l c := by
  have hseal := fun n hn => h.restoreSeal_eq hp ha (n := n) hn
  constructor
  case keeps =>
    intro n hl hs hh ho
    have hsame := h.records n hl
    rw [hc n hl, hb.keeps n (hsame ▸ hl) (hsame ▸ hs) (hsame ▸ hh) (fun hno => ho ((h.off_iff n).mp hno)), hsame]
  case heldStays =>
    rintro n hn ⟨m, hm⟩
    rw [hc n hn.2, hb.heldStays n ((h.holds_iff _ n).mpr hn)
      ⟨m, hm.imp (h.holds_iff _ m).mpr (h.lands_iff m).mpr⟩, h.records n hn.2]
  case heldPushed =>
    intro n hn hno hlow
    rw [hc n hn.2, hb.heldPushed n ((h.holds_iff _ n).mpr hn)
      (fun m => ⟨fun hm => (hno m).1 ((h.holds_iff _ m).mp hm), fun hm => (hno m).2 ((h.lands_iff m).mp hm)⟩)
      (fun m hlt hm => hlow m hlt ((h.holds_iff _ m).mp hm)), h.records n hn.2]
  case frees =>
    intro n hl hs hz
    have hsame := h.records n hl
    rw [hc n hl, hb.frees n (hsame ▸ hl) (hsame ▸ hs.imp_right (h.off_iff n).mpr) (hsame ▸ hz), hseal n hl]
  case holds =>
    rintro n hn ⟨m, hm⟩
    rw [hc n hn.2.1, hb.holds n ((h.lands_iff n).mpr hn)
      ⟨m, hm.imp (h.holds_iff _ m).mpr fun hm => ⟨(h.lands_iff m).mpr hm.1, hm.2⟩⟩, hseal n hn.2.1]
  case readies =>
    intro n hn hfirst
    rw [hc n hn.2.1, hb.readies n ((h.lands_iff n).mpr hn) (fun m =>
      ⟨fun hm => (hfirst m).1 ((h.holds_iff _ m).mp hm), fun hm => (hfirst m).2 ((h.lands_iff m).mp hm)⟩),
      hseal n hn.2.1]

end

/-- R139: what the steps of the lanes `ls` make of `p`. -/
structure LanesRestored (p : State) (ls : List Lane) (b : State) : Prop where
  moved : RecordsMoved p b
  others : ∀ n, (∀ l ∈ ls, (p.stack n).lane ≠ l.val + 1) → b.stack n = p.stack n
  records : ∀ l ∈ ls, LaneRecords p l b
  outputs : ∀ pushed : Lane → Bool, (∀ l ∈ ls, pushed l = true ↔ Pushes p l) →
    b.outputs = (ls.filter pushed).reverse.map Output.push ++ p.outputs

/-- R139: the lanes, one after the other, when the counts of their SEALED and OPEN records add up. -/
theorem foldl_restoreLane {p : State} (hp : Restoring p) {ls : List Lane} (hls : ls.Nodup)
    (hsum : ∀ l ∈ ls, ∀ n, (p.stack n).lane = l.val + 1 → (p.stack n).state = .sealed ∨ (p.stack n).state = .opened →
      (p.stack n).landed + (p.stack n).lost = (p.stack n).committed) :
    LanesRestored p ls (ls.foldl restoreLane p) := by
  induction ls generalizing p with
  | nil => exact ⟨.refl p, fun _ _ => rfl, nofun, fun _ _ => rfl⟩
  | cons l ls ih =>
    obtain ⟨hfresh, hrest⟩ := List.nodup_cons.mp hls
    have hlane := restoreLane_restored hp l (hsum l List.mem_cons_self)
    have ha := hlane.moved.restoring hp
    have hne {k : Lane} (hk : k ∈ ls) : k.val + 1 ≠ l.val + 1 := fun heq =>
      hfresh (Fin.ext (Nat.succ.inj heq) ▸ hk)
    have hsame {k : Lane} (hk : k ∈ ls) : SameLane p k (restoreLane p l) :=
      ⟨hlane.moved, hlane.lanes, fun n hn => hlane.others n (hn ▸ hne hk)⟩
    have hlater := ih (p := restoreLane p l) ha hrest fun k hk n hn => by
      have hn' : (p.stack n).lane = k.val + 1 := (hlane.lanes n).symm.trans hn
      rw [(hsame hk).records n hn']
      exact hsum k (List.mem_cons_of_mem l hk) n hn'
    rw [List.foldl_cons]
    refine ⟨hlane.moved.trans hlater.moved, fun n hn => ?others, fun k hk => ?records, fun pushed hpushed => ?outputs⟩
    case others =>
      rw [hlater.others n fun k hk => ?_, hlane.others n (hn l List.mem_cons_self)]
      rw [hlane.lanes n]
      exact hn k (List.mem_cons_of_mem l hk)
    case records =>
      rcases List.mem_cons.mp hk with rfl | hk
      · refine LaneRecords.of_sameLane ⟨.refl p, fun _ => rfl, fun _ _ => rfl⟩ hp.sound hp.sound hlane.records
          fun n hn => hlater.others n fun j hj => ?_
        rw [hlane.lanes n, hn]
        exact (hne hj).symm
      · exact LaneRecords.of_sameLane (hsame hk) hp.sound ha.sound (hlater.records k hk) fun _ _ => rfl
    case outputs =>
      have htail := hlater.outputs pushed fun k hk => by
        rw [hpushed k (List.mem_cons_of_mem l hk), (hsame hk).pushes_iff]
      rw [htail]
      by_cases hpush : pushed l = true
      · rw [hlane.pulses ((hpushed l List.mem_cons_self).mp hpush), List.filter_cons_of_pos hpush, List.reverse_cons,
          List.map_append, List.append_assoc]
        rfl
      · rw [hlane.quiet fun hno => hpush ((hpushed l List.mem_cons_self).mpr hno), List.filter_cons_of_neg hpush]

end Sys2Proof.Proofs
end

section
/-! SUPPORT. Steps 2 to 4 of the reset sequence on a clean image, up to the lanes' seals and completions: the working copies,
the job slots, the lanes' volatile state and the stack records restored one by one. -/

namespace Sys2Proof.Proofs

open Sys2Proof Sys2Proof.Machine Sys2Proof.Laws

/-! ### Tables restored entry by entry -/

/-- Every entry of a table replaced by what a function makes of it, one after the other. -/
theorem foldl_vset_finRange {α : Type} {n : Nat} (g : Fin n → α → α) (v : Vector α n) :
    (List.finRange n).foldl (fun v i => vset v i (g i v[i])) v = vtab (fun i => g i v[i]) := by
  have hget : ∀ (is : List (Fin n)), is.Nodup → ∀ (v : Vector α n) (j : Fin n),
      (is.foldl (fun v i => vset v i (g i v[i])) v)[j] = if j ∈ is then g j v[j] else v[j] := by
    intro is
    induction is with
    | nil => exact fun _ _ _ => rfl
    | cons i is ih =>
      intro hnodup v j
      obtain ⟨hfresh, hrest⟩ := List.nodup_cons.mp hnodup
      rw [List.foldl_cons, ih hrest, vset_get]
      by_cases hij : i = j
      · subst hij
        rw [if_neg hfresh, if_pos rfl, if_pos List.mem_cons_self]
      · rw [if_neg hij]
        simp only [List.mem_cons, Ne.symm hij, false_or]
  refine vector_ext fun j => ?_
  rw [hget _ (List.nodup_finRange n), if_pos (List.mem_finRange j), vtab_get]

/-- A table of the state restored entry by entry, each step writing one entry from what stands there. -/
theorem foldl_table {α : Type} {n : Nat} {table : State → Vector α n} {put : State → Vector α n → State}
    (hget : ∀ t v, table (put t v) = v) (hput : ∀ t v w, put (put t v) w = put t w) (hself : ∀ t, put t (table t) = t)
    {step : State → Fin n → State} {g : Fin n → α → α} {P : State → Prop} (hkeeps : ∀ t v, P t → P (put t v))
    (hstep : ∀ t i, P t → step t i = put t (vset (table t) i (g i (table t)[i]))) {t : State} (ht : P t) :
    (List.finRange n).foldl step t = put t (vtab (fun i => g i (table t)[i])) := by
  have hfold : ∀ (is : List (Fin n)) {t : State}, P t →
      is.foldl step t = put t (is.foldl (fun v i => vset v i (g i v[i])) (table t)) := by
    intro is
    induction is with
    | nil => exact fun {t} _ => (hself t).symm
    | cons i is ih =>
      intro t ht
      rw [List.foldl_cons, hstep t i ht, ih (hkeeps _ _ ht), hget, hput, List.foldl_cons]
  rw [hfold _ ht, foldl_vset_finRange]

/-- R116: a job record after the restore of its slot. -/
def restoredJob (r : JobRecord) : JobRecord := if r.state = .ending then { r with state := .empty } else r

theorem restoredJob_state {r : JobRecord} {st : SlotState} (he : st ≠ .empty) (hn : st ≠ .ending) :
    (restoredJob r).state = st ↔ r.state = st := by
  unfold restoredJob
  split
  next h => exact iff_of_false (fun hst => he hst.symm) (fun hst => hn (hst.symm.trans h))
  next => rfl

theorem restoredJob_serialized (r : JobRecord) : (restoredJob r).serialized = r.serialized := by
  unfold restoredJob
  split <;> rfl

/-- R116: one slot restored. -/
theorem restoreJob_sound {t : State} (ht : t.sound) (j : JobSlot) :
    t.restoreJob j =
      { t with memory := { t.memory with jobRecs := vset t.memory.jobRecs j (restoredJob t.memory.jobRecs[j]) } } := by
  unfold State.restoreJob restoredJob
  rw [job_image t j ht.damaged]
  by_cases h : t.memory.jobRecs[j].state = .ending
  · rw [if_pos ⟨ht.power, h⟩, if_pos h]
    rfl
  · rw [if_neg fun hno => h hno.2, if_neg h, vset_self]

/-- R116: all slots restored. -/
theorem foldl_restoreJob {t : State} (ht : t.sound) :
    (List.finRange 16).foldl State.restoreJob t =
      { t with memory := { t.memory with jobRecs := vtab (fun j => restoredJob t.memory.jobRecs[j]) } } :=
  foldl_table (table := fun t => t.memory.jobRecs) (put := fun t v => { t with memory := { t.memory with jobRecs := v } })
    (fun _ _ => rfl) (fun _ _ _ => rfl) (fun _ => rfl) (P := State.sound) (g := fun _ => restoredJob)
    (fun _ _ ht => ⟨ht.clean, ht.power, ht.damaged⟩) (fun _ j ht => restoreJob_sound ht j) ht

/-- R138: one stack record restored. -/
theorem restoreStack_sound {t : State} (ht : t.sound) (n : StackNo) :
    t.restoreStack n = t.setStack n (restoredStack t.memory.stackRecs[n]) := by
  unfold State.restoreStack
  rw [if_neg (by rw [ht.power]; exact Bool.false_ne_true), stack_image t n ht.damaged]

/-- R138: all stack records restored. -/
theorem foldl_restoreStack {t : State} (ht : t.sound) :
    (List.finRange 64).foldl State.restoreStack t =
      { t with memory := { t.memory with stackRecs := vtab (fun n => restoredStack t.memory.stackRecs[n]) } } :=
  foldl_table (table := fun t => t.memory.stackRecs)
    (put := fun t v => { t with memory := { t.memory with stackRecs := v } })
    (fun _ _ => rfl) (fun _ _ _ => rfl) (fun _ => rfl) (P := State.sound) (g := fun _ => restoredStack)
    (fun _ _ ht => ⟨ht.clean, ht.power, ht.damaged⟩) (fun _ n ht => restoreStack_sound ht n) ht

/-! ### The state before the lanes' completions (R187) -/

/-- R187: RECORD_DAMAGED joins the latched causes when a record of the list carries its mark. -/
theorem raiseIfDamaged_latched (s : State) (refs : List RecordRef) :
    s.raiseIfDamaged refs =
      { s with attention := { s.attention with
        latched := s.attention.latched ||| if refs.any s.isDamaged then Attention.recordDamaged.set else 0 } } := by
  unfold State.raiseIfDamaged
  split
  next => rfl
  next =>
    have hsame : s.attention.latched ||| 0 = s.attention.latched := BitVec.or_zero
    rw [hsame]

/-- R60, R187: the working copies after a reset, before the queue is rebuilt. -/
def workRestored (s : State) : Settings :=
  if s.memory.geometry.damaged then Settings.default else s.memory.geometry.settings

/-- R77: T after a reset. -/
def trimRestored (s : State) (cold : Bool) : Int :=
  if s.memory.geometry.damaged then 0 else if cold then s.memory.geometry.savedTrim else s.register.trim

/-- The cause set of one cause, when it arises. -/
def causeWhen (a : Attention) (b : Bool) : BitVec 16 := if b then a.set else 0

theorem causeWhen_or (a : Attention) (b c : Bool) : causeWhen a b ||| causeWhen a c = causeWhen a (b || c) := by
  unfold causeWhen
  cases b <;> cases c <;> simp

/-- R187, steps 2 and 3: the state in which the volatile state of the lanes is set. -/
def tablesRestored (s : State) (cold : Bool) : State :=
  { resetBegun s cold with
      attention := { (resetBegun s cold).attention with latched := causeWhen .recordDamaged s.memory.geometry.damaged }
      register := RegisterUnit.reset (if cold then 0 else s.register.f16) (trimRestored s cold)
      work := workRestored s
      memory := { (resetBegun s cold).memory with jobRecs := vtab (fun j => restoredJob s.memory.jobRecs[j]) } }

/-- R187, step 3: some job slot or lane record carries its damage mark. -/
def tablesMarked (s : State) (cold : Bool) : Bool :=
  ((List.finRange 16).map RecordRef.job ++ (List.finRange 12).map RecordRef.lane).any (tablesRestored s cold).isDamaged

/-- R187: the state in which the lanes' seals and completions of R139 begin. -/
def recordsRestored (s : State) (cold : Bool) : State :=
  { tablesRestored s cold with
      attention := { (tablesRestored s cold).attention with
        latched := causeWhen .recordDamaged s.memory.geometry.damaged ||| causeWhen .recordDamaged (tablesMarked s cold) }
      lanes := vtab (fun l => { LaneUnit.reset with run := runAfterReset (tablesRestored s cold) l })
      memory := { (tablesRestored s cold).memory with
        stackRecs := vtab (fun n => restoredStack s.memory.stackRecs[n]) } }

theorem restoreGeometry_begun (s : State) (cold : Bool) :
    (resetBegun s cold).restoreGeometry cold =
      { resetBegun s cold with
          attention := { (resetBegun s cold).attention with latched := causeWhen .recordDamaged s.memory.geometry.damaged }
          register := RegisterUnit.reset (if cold then 0 else s.register.f16) (trimRestored s cold)
          work := workRestored s } := by
  have hmarked (ref : RecordRef) : (resetBegun s cold).isDamaged ref = s.marked ref := isDamaged_eq_marked rfl ref
  have hdam : (resetBegun s cold).geometryDamaged = s.memory.geometry.damaged := hmarked .geometry
  have hany : [RecordRef.geometry].any (resetBegun s cold).isDamaged = s.memory.geometry.damaged := by
    rw [List.any_cons, List.any_nil, Bool.or_false]
    exact hdam
  unfold State.restoreGeometry trimAfterReset
  rw [raiseIfDamaged_latched, hdam, hany]
  have hcause : (resetBegun s cold).attention.latched ||| causeWhen .recordDamaged s.memory.geometry.damaged =
      causeWhen .recordDamaged s.memory.geometry.damaged := BitVec.zero_or
  unfold causeWhen at hcause
  dsimp only
  rw [hcause]
  rfl

theorem tablesRestored_eq {s : State} (cold : Bool) (hc : s.clean) :
    (List.finRange 16).foldl State.restoreJob ((resetBegun s cold).restoreGeometry cold) = tablesRestored s cold := by
  rw [restoreGeometry_begun]
  exact foldl_restoreJob (by exact ⟨hc, rfl, rfl⟩)

theorem recordsRestored_eq {s : State} (cold : Bool) (hc : s.clean) :
    (List.finRange 64).foldl State.restoreStack
        ((List.finRange 16).foldl State.restoreJob ((resetBegun s cold).restoreGeometry cold)).restoreLanes =
      recordsRestored s cold := by
  rw [tablesRestored_eq cold hc, State.restoreLanes, raiseIfDamaged_latched]
  exact foldl_restoreStack (by exact ⟨hc, rfl, rfl⟩)

/-- R99, R116: after the reset of its volatile state a lane is OFF or ACTIVE. -/
theorem runAfterReset_cases (s : State) (l : Lane) : runAfterReset s l = .off ∨ runAfterReset s l = .active := by
  unfold runAfterReset
  split
  · exact .inl rfl
  · split
    · exact .inr rfl
    · exact .inl rfl

theorem recordsRestored_restoring {s : State} (cold : Bool) (hc : s.clean) : Restoring (recordsRestored s cold) := by
  refine ⟨⟨hc, rfl, rfl⟩, fun l c => ?_⟩
  show (vtab (fun l => { LaneUnit.reset with run := runAfterReset (tablesRestored s cold) l }))[l].run ≠ _
  rw [vtab_get]
  rcases runAfterReset_cases (tablesRestored s cold) l with h | h <;> rw [h] <;> exact nofun

theorem recordsRestored_stack (s : State) (cold : Bool) (n : StackNo) :
    (recordsRestored s cold).stack n = restoredStack s.memory.stackRecs[n] := by
  rw [stack_image (recordsRestored s cold) n rfl]
  exact vtab_get _ n

/-! ### After the lanes: the shuttle and the queue (R158, R159) -/

/-- R187: the state after R139. -/
@[irreducible] def lanesRestored (s : State) (cold : Bool) : State := (List.finRange 12).foldl restoreLane (recordsRestored s cold)

/-- R187: the state in which the arbiter tests for a grant. -/
def queueRestored (s : State) (cold : Bool) : State := ((lanesRestored s cold).resetShuttle cold).rebuildQueue

theorem resetPart_queueRestored {s : State} (cold : Bool) (hc : s.clean) :
    s.resetPart cold none = State.restoreCounters (queueRestored s cold).grant cold := by
  rw [resetPart_clean cold hc, recordsRestored_eq cold hc]
  unfold queueRestored lanesRestored
  rfl

/-- R138: an OPEN or SEALED record is restored by its landed labels. -/
theorem restoredStack_forming {r : StackRecord} (h : r.state = .opened ∨ r.state = .sealed) :
    restoredStack r = restoredForming r := by
  unfold restoredStack
  rcases h with h | h <;> rw [h]

theorem restoredStack_transfer {r : StackRecord} (h : r.state = .transfer) :
    restoredStack r = { r with state := .quarantined .transfer } := by
  unfold restoredStack
  rw [h]

theorem restoredStack_keeps {r : StackRecord} (ho : r.state ≠ .opened) (hs : r.state ≠ .sealed)
    (ht : r.state ≠ .transfer) : restoredStack r = r := by
  unfold restoredStack
  split
  next h => exact absurd h ho
  next h => exact absurd h hs
  next h => exact absurd h ht
  next => rfl

theorem restoredStack_lane (r : StackRecord) : (restoredStack r).lane = r.lane := by
  unfold restoredStack
  split <;> rfl

/-- R138: the restore of a record changes its state only from TRANSFER to QUARANTINED. -/
theorem restoredStack_state (r : StackRecord) {st : StackState} (ht : st ≠ .transfer)
    (hq : st ≠ .quarantined .transfer) : (restoredStack r).state = st ↔ r.state = st := by
  by_cases h : r.state = .transfer
  · rw [restoredStack_transfer h]
    exact iff_of_false (fun hst => hq hst.symm) (fun hst => ht (hst.symm.trans h))
  · by_cases hf : r.state = .opened ∨ r.state = .sealed
    · rw [restoredStack_forming hf]
      rfl
    · obtain ⟨ho, hs⟩ := not_or.mp hf
      rw [restoredStack_keeps ho hs h]

/-- R138: the counts of a record restored as SEALED or OPEN add up. -/
theorem restoredStack_sum {r : StackRecord} (h : (restoredStack r).state = .sealed ∨ (restoredStack r).state = .opened) :
    (restoredStack r).landed + (restoredStack r).lost = (restoredStack r).committed := by
  rw [restoredStack_state r (st := .sealed) nofun nofun, restoredStack_state r (st := .opened) nofun nofun] at h
  rw [restoredStack_forming h.symm]
  rfl

theorem lanesRestored_lanes {s : State} (cold : Bool) (hc : s.clean) :
    LanesRestored (recordsRestored s cold) (List.finRange 12) (lanesRestored s cold) := by
  unfold lanesRestored
  exact foldl_restoreLane (recordsRestored_restoring cold hc) (List.nodup_finRange 12) fun l _ n _ h => by
    rw [recordsRestored_stack] at h ⊢
    exact restoredStack_sum h

theorem lanesRestored_sound {s : State} (cold : Bool) (hc : s.clean) : (lanesRestored s cold).sound :=
  ((lanesRestored_lanes cold hc).moved.restoring (recordsRestored_restoring cold hc)).sound

/-! ### The grant at the end of a reset (R141 to R144) -/

/-- R141 to R144: a grant with no lane BLOCKED changes records, outputs and the shuttle alone, and of the records those that
are READY or HELD. -/
structure Granted (a b : State) : Prop where
  rest : b = { a with
    memory := { a.memory with stackRecs := b.memory.stackRecs }, outputs := b.outputs, shuttle := b.shuttle }
  keeps : ∀ n : StackNo, (a.stack n).state ≠ .ready → (a.stack n).state ≠ .held → b.stack n = a.stack n

theorem Granted.refl (a : State) : Granted a a := ⟨rfl, fun _ _ _ => rfl⟩

theorem Granted.trans {a b c : State} (h : Granted a b) (k : Granted b c) : Granted a c := by
  refine ⟨?_, fun n hr hh => ?_⟩
  · rw [k.rest, h.rest]
  · have hsame := h.keeps n hr hh
    rw [k.keeps n (hsame ▸ hr) (hsame ▸ hh), hsame]

/-- R128, R144: the transfer of a READY record. -/
theorem startTransfer_granted {a : State} (ha : Restoring a) {l : Lane} {n : StackNo} (hn : (a.stack n).state = .ready) :
    Granted a (State.startTransfer readRecord l n a) := by
  have hstarted : Restoring (transferStarted a l n) := ⟨⟨ha.sound.clean, ha.sound.power, ha.sound.damaged⟩, ha.unblocked⟩
  have hstack (m : StackNo) : (transferStarted a l n).stack m =
      if n = m then { a.stack n with state := .transfer } else a.stack m := stack_written_sound ha.sound n m _
  have hkeeps {m : StackNo} (hr : (a.stack m).state ≠ .ready) : (transferStarted a l n).stack m = a.stack m := by
    rw [hstack, if_neg]
    rintro rfl
    exact hr hn
  rw [startTransfer_eq]
  by_cases h : (transferStarted a l n).heldOf l = none ∨ (transferStarted a l n).readyOf l ≠ none
  · rw [pushHeld_stays h, unblockLanes_unblocked hstarted.unblocked]
    exact ⟨rfl, fun m hr _ => hkeeps hr⟩
  · obtain ⟨hheld, hready⟩ := not_or.mp h
    obtain ⟨k, hk⟩ := Option.ne_none_iff_exists'.mp hheld
    rw [pushHeld_pushes hstarted.sound.clean hk (Classical.not_not.mp hready), unblockLanes_unblocked (by exact hstarted.unblocked)]
    refine ⟨rfl, fun m hr hh => ?_⟩
    have hkm : k ≠ m := by
      rintro rfl
      rw [← hkeeps hr] at hh
      exact hh (laneStack_some hk).1
    show ((transferStarted a l n).setStack k _).stack m = _
    rw [stack_written_sound hstarted.sound, if_neg hkm, hkeeps hr]

theorem grant_granted {a : State} (ha : Restoring a) : Granted a a.grant := by
  by_cases hg : a.canGrant = true
  · have hchosen : ∀ c : State × Option Lane, c.1 = a ∨ c.1 = a.reloadCredits → Restoring c.1 ∧ Granted a c.1 := by
      rintro c (h | h) <;> rw [h]
      · exact ⟨ha, .refl a⟩
      · exact ⟨⟨⟨ha.sound.clean, ha.sound.power, ha.sound.damaged⟩, ha.unblocked⟩, ⟨rfl, fun _ _ _ => rfl⟩⟩
    obtain ⟨hc, hac⟩ := hchosen _ (chooseLane_state ha.sound.clean hg)
    unfold State.grant State.grantWith
    rw [if_pos hg]
    generalize State.chooseLane readRecord a = c at hc hac
    dsimp only
    split
    · exact hac
    · split
      · exact hac
      · rw [readRecord_clean _ _ hc.sound.clean]
        split
        next hready =>
          exact hac.trans (startTransfer_granted hc hready.2.1)
        · exact hac
  · rw [grant_stays (by simpa using hg)]
    exact .refl a

end Sys2Proof.Proofs
end

section
/-! SUPPORT. Steps 5 and 6 of the reset sequence on a clean image: the queue in the order of the delivery sequences, the
shuttle, and the counters after the grant. -/

namespace Sys2Proof.Proofs

open Sys2Proof Sys2Proof.Machine Sys2Proof.Laws

/-! ### The counters (R172, R177) -/

/-- R187, step 6. -/
theorem restoreCounters_eq (s : State) (cold : Bool) :
    s.restoreCounters cold =
      { s with
          counters := vtab (counterAfterReset s cold)
          attention :=
            { latched := s.attention.latched ||| causeWhen .recordDamaged (((List.finRange 4).map RecordRef.counter).any s.isDamaged)
              enabled := 0x0FFF
              qualityStop := false } } := by
  unfold State.restoreCounters
  rw [raiseIfDamaged_latched]
  rfl

/-! ### The delivery queue in order (R159) -/

/-- Sequences within half their range above a base compare as their distances from it. -/
theorem posBefore_iff_of_base {q r base : BitVec 32} (hq : (q - base).toNat < 2147483648)
    (hr : (r - base).toNat < 2147483648) : posBefore q r ↔ (q - base).toNat < (r - base).toNat := by
  have hdiff : q - r = q - base - (r - base) := by bv_omega
  unfold posBefore posDiff
  rw [hdiff, BitVec.toInt_eq_toNat_cond, BitVec.toNat_sub]
  generalize (q - base).toNat = x at hq ⊢
  generalize (r - base).toNat = y at hr ⊢
  split <;> omega

/-- A record is entered behind every other of no higher key. -/
theorem insertDelivered_sorted {s : State} {key : StackNo → Nat} {n : StackNo} {ms : List StackNo}
    (hkey : ∀ m ∈ ms, posBefore (seqOf s n) (seqOf s m) ↔ key n < key m) (hms : ms.Pairwise (fun a b => key a ≤ key b)) :
    (insertDelivered s n ms).Pairwise (fun a b => key a ≤ key b) := by
  induction ms with
  | nil => exact List.pairwise_singleton _ n
  | cons m ms ih =>
    obtain ⟨hhead, htail⟩ := List.pairwise_cons.mp hms
    unfold insertDelivered
    split
    next hlt =>
      have hnm : key n ≤ key m := Nat.le_of_lt ((hkey m List.mem_cons_self).mp hlt)
      refine List.pairwise_cons.mpr ⟨fun k hk => ?_, hms⟩
      rcases List.mem_cons.mp hk with rfl | hk
      · exact hnm
      · exact Nat.le_trans hnm (hhead k hk)
    next hge =>
      have hmn : key m ≤ key n := Nat.not_lt.mp fun hlt => hge ((hkey m List.mem_cons_self).mpr hlt)
      refine List.pairwise_cons.mpr ⟨fun k hk => ?_, ih (fun k hk => hkey k (List.mem_cons_of_mem m hk)) htail⟩
      rcases List.mem_cons.mp ((insertDelivered_perm s n ms).mem_iff.mp hk) with rfl | hk
      · exact hmn
      · exact hhead k hk

/-- R159: with sequences that compare as keys, the queue stands in the order of the keys. -/
theorem deliveredInOrder_sorted {s : State} {key : StackNo → Nat}
    (hkey : ∀ n m, (s.stack n).state = .delivered → (s.stack m).state = .delivered →
      (posBefore (seqOf s n) (seqOf s m) ↔ key n < key m)) :
    s.deliveredInOrder.Pairwise (fun a b => key a ≤ key b) := by
  have hsort : ∀ ns : List StackNo, (∀ n ∈ ns, (s.stack n).state = .delivered) →
      (ns.foldr (insertDelivered s) []).Perm ns ∧
        (ns.foldr (insertDelivered s) []).Pairwise (fun a b => key a ≤ key b) := by
    intro ns
    induction ns with
    | nil => exact fun _ => ⟨.refl _, .nil⟩
    | cons n ns ih =>
      intro hns
      obtain ⟨hperm, hsorted⟩ := ih fun m hm => hns m (List.mem_cons_of_mem n hm)
      refine ⟨(insertDelivered_perm s n _).trans (hperm.cons n), insertDelivered_sorted (fun m hm => ?_) hsorted⟩
      exact hkey n m (hns n List.mem_cons_self) (hns m (List.mem_cons_of_mem n (hperm.mem_iff.mp hm)))
  exact (hsort _ fun n hn => beq_iff_eq.mp (List.mem_filter.mp hn).2).2

/-- R139: the steps of a lane make no record DELIVERED and take none from the queue. -/
theorem delivery_restoreLane {s : State} (hc : s.memory.flips = []) (hd : s.memory.damagedSet = []) (l : Lane) :
    delivery (restoreLane s l) = delivery s := by
  have hseal : delivery (s.restoreSeal l) = delivery s := by
    unfold State.restoreSeal
    split
    · split
      · rfl
      · next hopen =>
        exact delivery_setStack hd (iff_of_false (by exact nofun) (by rw [(laneStack_some hopen).1]; exact nofun))
    · rfl
  have hcomplete : ∀ (ns : List StackNo) (t : State), delivery t = delivery s →
      delivery (ns.foldl (fun t n => t.restoreComplete l n) t) = delivery s := by
    intro ns
    induction ns with
    | nil => exact fun _ h => h
    | cons n ns ih =>
      intro t ht
      rw [List.foldl_cons]
      refine ih _ (Eq.trans ?_ ht)
      show delivery (t.restoreComplete l n) = delivery t
      unfold State.restoreComplete
      split
      · next h =>
        exact delivery_moveComplete ((congrArg DeliveryView.damagedSet ht).trans hd) (complete_not_delivered h.2.2)
      · rfl
  have hdone := hcomplete (List.finRange 64) (s.restoreSeal l) hseal
  unfold restoreLane
  generalize (List.finRange 64).foldl (fun t n => t.restoreComplete l n) (s.restoreSeal l) = t at hdone
  have hclean : t.memory.flips = [] := (congrArg DeliveryView.flips hdone).trans hc
  have hdamaged : t.memory.damagedSet = [] := (congrArg DeliveryView.damagedSet hdone).trans hd
  by_cases hp : t.pfail = true
  · rw [State.restorePush, if_pos hp]
    exact hdone
  · rw [restorePush_eq l ⟨hclean, by simpa using hp⟩, delivery_pushHeld l hclean hdamaged]
    exact hdone

theorem delivery_lanesRestored {s : State} (cold : Bool) (hc : s.clean) :
    delivery (lanesRestored s cold) = delivery (recordsRestored s cold) := by
  have hlanes : ∀ (ls : List Lane) (t : State), delivery t = delivery (recordsRestored s cold) →
      delivery (ls.foldl restoreLane t) = delivery (recordsRestored s cold) := by
    intro ls
    induction ls with
    | nil => exact fun _ h => h
    | cons l ls ih =>
      intro t ht
      rw [List.foldl_cons]
      refine ih _ (Eq.trans (delivery_restoreLane ?_ ?_ l) ht)
      · exact (congrArg DeliveryView.flips ht).trans hc
      · exact congrArg DeliveryView.damagedSet ht
  unfold lanesRestored
  exact hlanes (List.finRange 12) _ rfl

/-- R159: the queue is rebuilt of the DELIVERED records. -/
theorem mem_deliveredInOrder {s : State} (hd : s.memory.damagedSet = []) (n : StackNo) :
    n ∈ s.deliveredInOrder ↔ s.memory.stackRecs[n].state = .delivered := by
  rw [(deliveredInOrder_perm hd).mem_iff, deliveredRecords, List.mem_filter]
  exact (and_iff_right (List.mem_finRange n)).trans beq_iff_eq

theorem deliveredInOrder_nodup {s : State} (hd : s.memory.damagedSet = []) : s.deliveredInOrder.Nodup :=
  (deliveredInOrder_perm hd).nodup_iff.mpr ((List.nodup_finRange 64).filter _)

section
variable {s : State} (cold : Bool) (hc : s.clean)
include hc

/-- R138, R139: steps 3 and 4 of the reset keep the DELIVERED records. -/
theorem lanesRestored_delivered (n : StackNo) :
    ((lanesRestored s cold).memory.stackRecs[n]).state = .delivered ↔ s.memory.stackRecs[n].state = .delivered := by
  have hsame := congrFun (congrArg DeliveryView.delivered (delivery_lanesRestored cold hc)) n
  have hrec : (recordsRestored s cold).memory.stackRecs[n] = restoredStack s.memory.stackRecs[n] := by
    rw [← recordsRestored_stack s cold n, stack_image (recordsRestored s cold) n rfl]
  have hiff := Bool.eq_iff_iff.mp hsame
  unfold delivery at hiff
  dsimp only at hiff
  rw [beq_iff_eq, beq_iff_eq, hrec, restoredStack_state _ (st := .delivered) nofun nofun] at hiff
  exact hiff

end

end Sys2Proof.Proofs
end

section
/-! SUPPORT. O52: what the reset sequence makes of the stack records, the delivery queue and the shuttle, on a clean image. -/

namespace Sys2Proof.Proofs

open Sys2Proof Sys2Proof.Machine Sys2Proof.Laws

/-! ### The records in the terms of the image found (R138, R139) -/

theorem recordsRestored_laneDamaged (s : State) (cold : Bool) (l : Lane) :
    (recordsRestored s cold).isDamaged (.lane l) = s.memory.laneRecs[l].damaged := isDamaged_eq_marked rfl (.lane l)

/-- R138: which records a lane holds in a state, for a state that the restore of a record does not touch. -/
theorem holds_recordsRestored (s : State) (cold : Bool) {st : StackState} (ht : st ≠ .transfer)
    (hq : st ≠ .quarantined .transfer) (l : Lane) (n : StackNo) : Holds (recordsRestored s cold) l st n ↔
      s.memory.stackRecs[n].state = st ∧ s.memory.stackRecs[n].lane = l.val + 1 := by
  unfold Holds
  rw [recordsRestored_stack, restoredStack_lane, restoredStack_state _ ht hq]

/-- R139, step 1: the record sealed with LANE_OFF is the lowest-numbered OPEN one of a lane whose record is marked. -/
theorem laneOff_recordsRestored (s : State) (cold : Bool) (l : Lane) (n : StackNo) :
    LaneOff (recordsRestored s cold) l n ↔ s.memory.stackRecs[n].state = .opened ∧
      s.memory.stackRecs[n].lane = l.val + 1 ∧ s.memory.laneRecs[l].damaged = true ∧
      ∀ m, m < n → ¬(s.memory.stackRecs[m].state = .opened ∧ s.memory.stackRecs[m].lane = l.val + 1) := by
  have hopen (m : StackNo) := holds_recordsRestored s cold (st := .opened) nofun nofun l m
  unfold LaneOff
  rw [recordsRestored_laneDamaged]
  constructor
  · rintro ⟨hdam, hn⟩
    obtain ⟨hstate, hlane⟩ := (hopen n).mp (laneStack_some hn)
    exact ⟨hstate, hlane, hdam, fun m hm hno => laneStack_lowest hn hm ((hopen m).mpr hno)⟩
  · rintro ⟨hstate, hlane, hdam, hlow⟩
    obtain ⟨hstate', hlane'⟩ := (hopen n).mpr ⟨hstate, hlane⟩
    exact ⟨hdam, laneStack_of_lowest hstate' hlane' fun m hm hno => hlow m hm ((hopen m).mp hno)⟩

theorem laneOff_opened {s : State} (cold : Bool) {l : Lane} {n : StackNo} (h : LaneOff (recordsRestored s cold) l n) :
    s.memory.stackRecs[n].state = .opened := ((laneOff_recordsRestored s cold l n).mp h).1

/-- R139, step 2: which records are moved to HELD or READY. -/
theorem lands_recordsRestored (s : State) (cold : Bool) (l : Lane) (n : StackNo) : Lands (recordsRestored s cold) l n ↔
    (s.memory.stackRecs[n].state = .sealed ∨ LaneOff (recordsRestored s cold) l n) ∧
      s.memory.stackRecs[n].lane = l.val + 1 ∧ s.memory.stackRecs[n].landed ≠ 0 := by
  unfold Lands
  rw [recordsRestored_stack, restoredStack_lane, restoredStack_state _ (st := .sealed) nofun nofun]
  refine and_congr_right fun h => and_congr_right fun _ => ?_
  rw [restoredStack_forming (h.symm.imp_left (laneOff_opened cold))]
  rfl

section
variable {s : State} (cold : Bool) (hc : s.clean)
include hc

/-- R138, R139: the records that the steps of the lanes leave as R138 restored them. -/
theorem lanesRestored_keeps {n : StackNo} (hs : s.memory.stackRecs[n].state ≠ .sealed)
    (hh : s.memory.stackRecs[n].state ≠ .held) (ho : ∀ l, ¬LaneOff (recordsRestored s cold) l n) :
    (lanesRestored s cold).stack n = restoredStack s.memory.stackRecs[n] := by
  have hlanes := lanesRestored_lanes cold hc
  rw [← recordsRestored_stack s cold n]
  by_cases hl : ∃ l : Lane, ((recordsRestored s cold).stack n).lane = l.val + 1
  · obtain ⟨l, hl⟩ := hl
    refine (hlanes.records l (List.mem_finRange l)).keeps n hl ?_ ?_ (ho l)
    · rw [recordsRestored_stack, ne_eq, restoredStack_state _ (st := .sealed) nofun nofun]
      exact hs
    · rw [recordsRestored_stack, ne_eq, restoredStack_state _ (st := .held) nofun nofun]
      exact hh
  · exact hlanes.others n fun l _ => not_exists.mp hl l

/-- R159: a DELIVERED record is found by the rebuild of the queue as it was. -/
theorem lanesRestored_stack_delivered {n : StackNo} (h : s.memory.stackRecs[n].state = .delivered) :
    (lanesRestored s cold).stack n = s.memory.stackRecs[n] := by
  rw [lanesRestored_keeps cold hc (by rw [h]; exact nofun) (by rw [h]; exact nofun) fun l hl =>
    (nomatch h.symm.trans (laneOff_opened cold hl)),
    restoredStack_keeps (by rw [h]; exact nofun) (by rw [h]; exact nofun) (by rw [h]; exact nofun)]

/-- R139: a READY record stays. -/
theorem lanesRestored_ready {n : StackNo} (hst : s.memory.stackRecs[n].state = .ready) :
    (lanesRestored s cold).stack n = s.memory.stackRecs[n] := by
  rw [lanesRestored_keeps cold hc (by rw [hst]; exact nofun) (by rw [hst]; exact nofun) fun k hk =>
    (nomatch hst.symm.trans (laneOff_opened cold hk))]
  exact restoredStack_keeps (by rw [hst]; exact nofun) (by rw [hst]; exact nofun) (by rw [hst]; exact nofun)

/-! ### The queue (R159) -/

theorem shuttleRestored_delivered (n : StackNo) : n ∈ ((lanesRestored s cold).resetShuttle cold).deliveredInOrder ↔
    s.memory.stackRecs[n].state = .delivered := by
  rw [mem_deliveredInOrder (by exact (lanesRestored_sound cold hc).damaged)]
  exact lanesRestored_delivered cold hc n

theorem shuttleRestored_seqOf {n : StackNo} (h : s.memory.stackRecs[n].state = .delivered) :
    seqOf ((lanesRestored s cold).resetShuttle cold) n = s.memory.stackRecs[n].deliverySeq.getD 0 := by
  rw [← lanesRestored_stack_delivered cold hc h]
  rfl

/-- R159: the entries stand in the order of their delivery sequences. -/
theorem queueRestored_ordered (base : BitVec 32)
    (hbase : ∀ (n : StackNo) (q : BitVec 32), s.memory.stackRecs[n].state = .delivered →
      s.memory.stackRecs[n].deliverySeq = some q → (q - base).toNat < 2147483648)
    (hseq : ∀ n : StackNo, s.memory.stackRecs[n].state = .delivered → s.memory.stackRecs[n].deliverySeq ≠ none) :
    (queueRestored s cold).queue.entries.Pairwise (fun a b => ∀ (n m : StackNo) (q r : BitVec 32), a = some n → b = some m →
      s.memory.stackRecs[n].deliverySeq = some q → s.memory.stackRecs[m].deliverySeq = some r → ¬posBefore r q) := by
  have hsorted : ((lanesRestored s cold).resetShuttle cold).deliveredInOrder.Pairwise (fun a b =>
      (s.memory.stackRecs[a].deliverySeq.getD 0 - base).toNat ≤ (s.memory.stackRecs[b].deliverySeq.getD 0 - base).toNat) := by
    refine deliveredInOrder_sorted (key := fun n => (s.memory.stackRecs[n].deliverySeq.getD 0 - base).toNat)
      fun n m hn hm => ?_
    have hdelivered {k : StackNo} (hk : (((lanesRestored s cold).resetShuttle cold).stack k).state = .delivered) :
        s.memory.stackRecs[k].state = .delivered := by
      rw [stack_image _ k (by exact (lanesRestored_sound cold hc).damaged)] at hk
      exact (lanesRestored_delivered cold hc k).mp hk
    obtain ⟨q, hq⟩ := Option.ne_none_iff_exists'.mp (hseq n (hdelivered hn))
    obtain ⟨r, hr⟩ := Option.ne_none_iff_exists'.mp (hseq m (hdelivered hm))
    rw [shuttleRestored_seqOf cold hc (hdelivered hn), shuttleRestored_seqOf cold hc (hdelivered hm), hq, hr]
    exact posBefore_iff_of_base (hbase n q (hdelivered hn) hq) (hbase m r (hdelivered hm) hr)
  refine List.pairwise_map.mpr (hsorted.imp_of_mem fun {a b} ha hb hle => ?_)
  rintro _ _ q r ⟨⟩ ⟨⟩ hq hr
  rw [shuttleRestored_delivered cold hc] at ha hb
  rw [posBefore_iff_of_base (hbase b r hb hr) (hbase a q ha hq), Nat.not_lt]
  rw [hq, hr] at hle
  exact hle

/-- R159: the next sequence follows that of the tail entry. -/
theorem queueRestored_nextSeq {front : List (Option StackNo)} {n : StackNo} {q : BitVec 32}
    (h : (queueRestored s cold).queue.entries = front ++ [some n]) (hq : s.memory.stackRecs[n].deliverySeq = some q) :
    (queueRestored s cold).queue.nextSeq = q + 1 := by
  have hlast : ((lanesRestored s cold).resetShuttle cold).deliveredInOrder.getLast? = some n := by
    have hmap := congrArg List.getLast? (show List.map some _ = _ from h)
    rw [List.getLast?_map, List.getLast?_concat] at hmap
    obtain ⟨m, hm, hmn⟩ := Option.map_eq_some_iff.mp hmap
    rw [hm, Option.some.inj hmn]
  have hn := (shuttleRestored_delivered cold hc n).mp (List.mem_of_getLast? hlast)
  show nextSeqAfter _ ((lanesRestored s cold).resetShuttle cold).deliveredInOrder = q + 1
  unfold nextSeqAfter
  rw [hlast]
  dsimp only
  rw [shuttleRestored_seqOf cold hc hn, hq]
  rfl

/-! ### After the grant and the counters -/

theorem queueRestored_granted : Granted (queueRestored s cold) (queueRestored s cold).grant := by
  refine grant_granted ?_
  have hlanes := (lanesRestored_lanes cold hc).moved.restoring (recordsRestored_restoring cold hc)
  exact ⟨⟨hlanes.sound.clean, hlanes.sound.power, hlanes.sound.damaged⟩, hlanes.unblocked⟩

/-- R187: the last step touches the counters and the attention logic alone. -/
theorem resetPart_granted : s.resetPart cold none =
    { (queueRestored s cold).grant with
        counters := vtab (counterAfterReset (queueRestored s cold).grant cold)
        attention :=
          { latched := (queueRestored s cold).grant.attention.latched |||
              causeWhen .recordDamaged (((List.finRange 4).map RecordRef.counter).any (queueRestored s cold).grant.isDamaged)
            enabled := 0x0FFF
            qualityStop := false } } := by
  rw [resetPart_queueRestored cold hc, restoreCounters_eq]

theorem resetPart_queue : (s.resetPart cold none).queue = (queueRestored s cold).queue := by
  have hqueue := congrArg State.queue (queueRestored_granted cold hc).rest
  rw [resetPart_granted cold hc]
  exact hqueue

theorem resetPart_work : (s.resetPart cold none).work = (queueRestored s cold).work := by
  have hwork := congrArg State.work (queueRestored_granted cold hc).rest
  rw [resetPart_granted cold hc]
  exact hwork

/-- R138: what becomes of a record that is not SEALED, HELD or READY, nor sealed with LANE_OFF. -/
theorem resetPart_keeps {n : StackNo} (hs : s.memory.stackRecs[n].state ≠ .sealed)
    (hh : s.memory.stackRecs[n].state ≠ .held) (hr : s.memory.stackRecs[n].state ≠ .ready)
    (ho : ∀ l, ¬LaneOff (recordsRestored s cold) l n) :
    (s.resetPart cold none).memory.stackRecs[n] = restoredStack s.memory.stackRecs[n] := by
  have hkept : (queueRestored s cold).stack n = restoredStack s.memory.stackRecs[n] := lanesRestored_keeps cold hc hs hh ho
  have hgranted := queueRestored_granted cold hc
  have hstack := hgranted.keeps n (by rw [hkept, ne_eq, restoredStack_state _ (st := .ready) nofun nofun]; exact hr)
    (by rw [hkept, ne_eq, restoredStack_state _ (st := .held) nofun nofun]; exact hh)
  have hdamaged : (queueRestored s cold).grant.memory.damagedSet = [] := by
    rw [hgranted.rest]
    exact (lanesRestored_sound cold hc).damaged
  rw [resetPart_granted cold hc]
  show (queueRestored s cold).grant.memory.stackRecs[n] = _
  rw [← stack_image _ n hdamaged, hstack, hkept]

/-- R138, R139: the SEALED record, or the one sealed with LANE_OFF, that step 2 completes. -/
theorem restoreSeal_recordsRestored {l : Lane} {n : StackNo} {r : StackRecord}
    (hsealed : s.memory.stackRecs[n].state = .sealed → r = restoredForming s.memory.stackRecs[n])
    (hoff : LaneOff (recordsRestored s cold) l n → r = sealedOff (restoredForming s.memory.stackRecs[n]))
    (h : s.memory.stackRecs[n].state = .sealed ∨ LaneOff (recordsRestored s cold) l n) :
    ((recordsRestored s cold).restoreSeal l).stack n = r := by
  obtain ⟨-, -, hstack⟩ := restoreSeal_moved (recordsRestored_restoring cold hc).sound l
  have hforming := restoredStack_forming (h.symm.imp_left (laneOff_opened cold))
  by_cases ho : LaneOff (recordsRestored s cold) l n
  · rw [(hstack n).1 ho, recordsRestored_stack, hforming, hoff ho]
  · rw [(hstack n).2 ho, recordsRestored_stack, hforming, hsealed (h.resolve_right ho)]

/-- R158: the shuttle when the arbiter tests for a grant. -/
theorem queueRestored_shuttle : (queueRestored s cold).shuttle =
    { state := .idle
      credits := vtab (fun l => if s.memory.laneRecs[l].damaged then 1 else s.memory.laneRecs[l].weight)
      lastWinner := none, faults := 0, timeouts := 0, lateDones := 0, strayHandshakes := 0, strayTakes := 0
      powerFailTakes := if cold then 0 else s.shuttle.powerFailTakes } := by
  have hrest := (lanesRestored_lanes cold hc).moved.rest
  have hweight (l : Lane) : ((lanesRestored s cold).laneRec l).weight =
      if s.memory.laneRecs[l].damaged then 1 else s.memory.laneRecs[l].weight := by
    have hdam : (lanesRestored s cold).isDamaged (.lane l) = s.memory.laneRecs[l].damaged := by
      rw [hrest]
      exact recordsRestored_laneDamaged s cold l
    unfold State.laneRec
    rw [hdam, hrest]
    split <;> rfl
  have htakes : (lanesRestored s cold).shuttle.powerFailTakes = s.shuttle.powerFailTakes := by
    rw [hrest]
    rfl
  unfold queueRestored State.rebuildQueue State.resetShuttle
  dsimp only
  rw [htakes, funext hweight]

end

/-- The records of the image by their part in R139, as the statement of O52 names them. -/
structure NamedRecords (s : State) (cold : Bool) (off : StackNo → Prop) (ready held moved : Lane → StackNo → Prop) :
    Prop where
  off_iff : ∀ (l : Lane) (n : StackNo), s.memory.stackRecs[n].lane = l.val + 1 →
    (off n ↔ LaneOff (recordsRestored s cold) l n)
  ready_iff : ∀ (l : Lane) (n : StackNo), Holds (recordsRestored s cold) l .ready n ↔ ready l n
  held_iff : ∀ (l : Lane) (n : StackNo), Holds (recordsRestored s cold) l .held n ↔ held l n
  moved_iff : ∀ (l : Lane) (n : StackNo), Lands (recordsRestored s cold) l n ↔ moved l n

section
variable {s : State} {cold : Bool} {off : StackNo → Prop} {ready held moved : Lane → StackNo → Prop}
  (hnames : NamedRecords s cold off ready held moved) (hc : s.clean) {l : Lane} {n : StackNo}
  (hl : s.memory.stackRecs[n].lane = l.val + 1)
include hnames hc hl

/-- R139: a HELD record stays, but the lowest-numbered one is pushed when the lane is left with no READY record. -/
theorem NamedRecords.held_kept_or_pushed (hst : s.memory.stackRecs[n].state = .held) :
    ((∃ m, ready l m ∨ moved l m) → (lanesRestored s cold).stack n = s.memory.stackRecs[n]) ∧
      ((∀ m, ¬ready l m ∧ ¬moved l m) → (∀ m, m < n → ¬held l m) →
        (lanesRestored s cold).stack n = { s.memory.stackRecs[n] with state := .ready }) := by
  have hrecord := (lanesRestored_lanes cold hc).records l (List.mem_finRange l)
  have hkept : (recordsRestored s cold).stack n = s.memory.stackRecs[n] := by
    rw [recordsRestored_stack]
    exact restoredStack_keeps (by rw [hst]; exact nofun) (by rw [hst]; exact nofun) (by rw [hst]; exact nofun)
  have hholds : Holds (recordsRestored s cold) l .held n := by
    unfold Holds
    rw [hkept]
    exact ⟨hst, hl⟩
  refine ⟨fun hex => ?_, fun hno hlow => ?_⟩
  · rw [hrecord.heldStays n hholds (hex.imp fun m hm => hm.imp (hnames.ready_iff l m).mpr (hnames.moved_iff l m).mpr),
      hkept]
  · rw [hrecord.heldPushed n hholds
      (fun m => (hno m).imp (mt (hnames.ready_iff l m).mp) (mt (hnames.moved_iff l m).mp))
      (fun m hm => mt (hnames.held_iff l m).mp (hlow m hm)), hkept]

section
variable {r : StackRecord} (hsealed : s.memory.stackRecs[n].state = .sealed → r = restoredForming s.memory.stackRecs[n])
  (hoff : off n → r = { restoredForming s.memory.stackRecs[n] with state := .sealed, sealReason := some .laneOff })
include hsealed hoff

/-- R139: a completed record with nothing landed is FREE. -/
theorem NamedRecords.freed (hst : s.memory.stackRecs[n].state = .sealed ∨ off n)
    (hz : s.memory.stackRecs[n].landed = 0) : (lanesRestored s cold).stack n = { r with state := .free } := by
  have hst' := hst.imp_right (hnames.off_iff l n hl).mp
  have hseal := restoreSeal_recordsRestored cold hc hsealed (fun ho => hoff ((hnames.off_iff l n hl).mpr ho)) hst'
  rw [((lanesRestored_lanes cold hc).records l (List.mem_finRange l)).frees n ?_ (hst'.imp_left ?_) ?_, hseal]
  · rw [recordsRestored_stack, restoredStack_lane]
    exact hl
  · rw [recordsRestored_stack, restoredStack_state _ (st := .sealed) nofun nofun]
    exact id
  · rw [recordsRestored_stack, restoredStack_forming (hst'.symm.imp_left (laneOff_opened cold))]
    exact hz

/-- R139: a completed record with labels landed is HELD behind another of its lane, else READY. -/
theorem NamedRecords.piled (hmv : moved l n) :
    ((∃ m, ready l m ∨ moved l m ∧ m < n) → (lanesRestored s cold).stack n = piledRecord r .held) ∧
      ((∀ m, ¬ready l m ∧ (moved l m → n ≤ m)) → (lanesRestored s cold).stack n = piledRecord r .ready) := by
  have hrecord := (lanesRestored_lanes cold hc).records l (List.mem_finRange l)
  have hlands := (hnames.moved_iff l n).mpr hmv
  have hseal := restoreSeal_recordsRestored cold hc hsealed (fun ho => hoff ((hnames.off_iff l n hl).mpr ho))
    ((lands_recordsRestored s cold l n).mp hlands).1
  refine ⟨fun hex => ?_, fun hfirst => ?_⟩
  · rw [hrecord.holds n hlands (hex.imp fun m hm =>
      hm.imp (hnames.ready_iff l m).mpr fun h => ⟨(hnames.moved_iff l m).mpr h.1, h.2⟩), hseal]
  · rw [hrecord.readies n hlands (fun m =>
      (hfirst m).imp (mt (hnames.ready_iff l m).mp) (fun h hm => h ((hnames.moved_iff l m).mp hm))), hseal]

end

end

/-- Settles O52: the grant and the counters are the last steps, and before them the records of each lane are what R139 makes
of those that R138 restored. -/
theorem resetSequenceRestoresStacksAndQueue : Obligations.ResetSequenceRestoresStacksAndQueue := by
  unfold Obligations.ResetSequenceRestoresStacksAndQueue
  rintro s t cold hc rfl off hoff
  have hlaneOff (l : Lane) (n : StackNo) := laneOff_recordsRestored s cold l n
  have hoffLane {l : Lane} {n : StackNo} (hl : s.memory.stackRecs[n].lane = l.val + 1) :
      off n ↔ LaneOff (recordsRestored s cold) l n := by
    rw [hoff, hlaneOff]
    refine and_congr_right fun _ => ⟨?_, fun h => ⟨l, h⟩⟩
    rintro ⟨k, hk, hrest⟩
    obtain rfl : k = l := Fin.ext (Nat.succ.inj (hk.symm.trans hl))
    exact ⟨hk, hrest⟩
  have hnotOff {n : StackNo} (h : ¬off n) (l : Lane) : ¬LaneOff (recordsRestored s cold) l n := fun ho =>
    h ((hoffLane ((hlaneOff l n).mp ho).2.1).mpr ho)
  have hnotOpened {n : StackNo} (h : s.memory.stackRecs[n].state ≠ .opened) (l : Lane) :
      ¬LaneOff (recordsRestored s cold) l n := fun ho => h (laneOff_opened cold ho)
  refine ⟨fun n => ⟨fun hst ho => ?opened, fun hst => ?transfer, fun hst => ?others, ?entries⟩, ?noUnknown, ?once,
    ?ordered, ?empty, ?nextSeq, ?lanes⟩
  case opened =>
    rw [resetPart_keeps cold hc (by rw [hst]; exact nofun) (by rw [hst]; exact nofun) (by rw [hst]; exact nofun)
      (hnotOff ho), restoredStack_forming (.inl hst)]
    rfl
  case transfer =>
    rw [resetPart_keeps cold hc (by rw [hst]; exact nofun) (by rw [hst]; exact nofun) (by rw [hst]; exact nofun)
      (hnotOpened (by rw [hst]; exact nofun)), restoredStack_transfer hst]
  case others =>
    have hne (st : StackState) (hf : st ≠ .free) (hd : st ≠ .delivered) (hq : ∀ c, st ≠ .quarantined c) :
        s.memory.stackRecs[n].state ≠ st := by
      rintro rfl
      rcases hst with h | h | ⟨c, h⟩
      · exact hf h
      · exact hd h
      · exact hq c h
    rw [resetPart_keeps cold hc (hne .sealed nofun nofun nofun) (hne .held nofun nofun nofun)
      (hne .ready nofun nofun nofun) (hnotOpened (hne .opened nofun nofun nofun)),
      restoredStack_keeps (hne .opened nofun nofun nofun) (hne .sealed nofun nofun nofun)
        (hne .transfer nofun nofun nofun)]
  case entries =>
    rw [resetPart_queue cold hc, ← shuttleRestored_delivered cold hc n]
    exact List.mem_map.trans ⟨fun ⟨m, hm, hmn⟩ => Option.some.inj hmn ▸ hm, fun hn => ⟨n, hn, rfl⟩⟩
  case noUnknown =>
    rw [resetPart_queue cold hc]
    rintro h
    obtain ⟨n, -, hn⟩ := List.mem_map.mp h
    exact nomatch hn
  case once =>
    rw [resetPart_queue cold hc]
    have hnodup := deliveredInOrder_nodup (s := (lanesRestored s cold).resetShuttle cold)
      (by exact (lanesRestored_sound cold hc).damaged)
    show (List.filterMap id (List.map some _)).Nodup
    rw [List.filterMap_map]
    exact (List.filterMap_some).symm ▸ hnodup
  case ordered =>
    rw [resetPart_queue cold hc]
    exact queueRestored_ordered cold hc
  case empty =>
    rw [resetPart_queue cold hc]
    intro h
    show nextSeqAfter _ ((lanesRestored s cold).resetShuttle cold).deliveredInOrder = 0
    rw [List.map_eq_nil_iff.mp (show List.map some _ = _ from h)]
    rfl
  case nextSeq =>
    rw [resetPart_queue cold hc]
    exact fun _ _ _ h hq => queueRestored_nextSeq cold hc h hq
  case lanes =>
    intro ready held moved hready hheld hmoved pushed hpushed
    have hlanes := lanesRestored_lanes cold hc
    have hreadyHolds (l : Lane) (m : StackNo) : Holds (recordsRestored s cold) l .ready m ↔ ready l m :=
      (holds_recordsRestored s cold (st := .ready) nofun nofun l m).trans (hready l m).symm
    have hheldHolds (l : Lane) (m : StackNo) : Holds (recordsRestored s cold) l .held m ↔ held l m :=
      (holds_recordsRestored s cold (st := .held) nofun nofun l m).trans (hheld l m).symm
    have hmovedLands (l : Lane) (m : StackNo) : Lands (recordsRestored s cold) l m ↔ moved l m := by
      rw [lands_recordsRestored, hmoved]
      exact ⟨fun ⟨h, hl, hn⟩ => ⟨h.imp_right (hoffLane hl).mpr, hl, hn⟩,
        fun ⟨h, hl, hn⟩ => ⟨h.imp_right (hoffLane hl).mp, hl, hn⟩⟩
    have hnames : NamedRecords s cold off ready held moved :=
      ⟨fun _ _ hl => hoffLane hl, hreadyHolds, hheldHolds, hmovedLands⟩
    have hpushes (l : Lane) : pushed l = true ↔ Pushes (recordsRestored s cold) l := by
      unfold Pushes
      simp only [hpushed, hreadyHolds, hheldHolds, hmovedLands]
    have hlaneRecs := congrArg (fun t => t.memory.laneRecs) hlanes.moved.rest
    refine ⟨queueRestored s cold, ?_, ?_, ?_, (resetPart_queue cold hc).symm, (resetPart_work cold hc).symm,
      (lanesRestored_sound cold hc).power, (lanesRestored_sound cold hc).clean, (lanesRestored_sound cold hc).damaged,
      hlaneRecs, hlanes.outputs pushed fun l _ => hpushes l, queueRestored_shuttle cold hc, fun n l hl => ?_⟩
    · rw [resetPart_granted cold hc]
    · rw [resetPart_granted cold hc]
    · rw [resetPart_granted cold hc]
    have hstack : (queueRestored s cold).memory.stackRecs[n] = (lanesRestored s cold).stack n :=
      (stack_image _ n (lanesRestored_sound cold hc).damaged).symm
    rw [hstack]
    refine ⟨lanesRestored_ready cold hc, hnames.held_kept_or_pushed hc hl, fun r hsealed hoffRec =>
      ⟨hnames.freed hc hl hsealed hoffRec, ?_⟩⟩
    rintro _ rfl hmv
    exact hnames.piled hc hl hsealed hoffRec hmv

end Sys2Proof.Proofs
end

section
/-! SUPPORT. O51, the clean image: what the reset sequence leaves of the volatile state and the tables. -/

namespace Sys2Proof.Proofs

open Sys2Proof Sys2Proof.Machine Sys2Proof.Laws

/-! ### The clauses of the statement (R187) -/

section
variable {s : State} (cold : Bool) (hc : s.clean)

/-- R187, step 3: which records of the tables carry their mark. -/
theorem tablesMarked_iff (s : State) (cold : Bool) : tablesMarked s cold = true ↔
    (∃ j : JobSlot, s.memory.jobRecs[j].state = .damaged) ∨ ∃ l : Lane, s.memory.laneRecs[l].damaged = true := by
  have hmarked (ref : RecordRef) : (tablesRestored s cold).isDamaged ref = (tablesRestored s cold).marked ref :=
    isDamaged_eq_marked rfl ref
  have hjob (j : JobSlot) : (tablesRestored s cold).isDamaged (.job j) = true ↔ s.memory.jobRecs[j].state = .damaged := by
    have hrec : (tablesRestored s cold).memory.jobRecs[j] = restoredJob s.memory.jobRecs[j] := vtab_get _ j
    rw [hmarked, State.marked, hrec, beq_iff_eq, restoredJob_state (st := .damaged) nofun nofun]
  have hlane (l : Lane) : (tablesRestored s cold).isDamaged (.lane l) = true ↔ s.memory.laneRecs[l].damaged = true := by
    rw [hmarked]
    rfl
  unfold tablesMarked
  simp only [List.any_append, List.any_map, Bool.or_eq_true, List.any_eq_true, List.mem_finRange, true_and,
    Function.comp_apply, hjob, hlane]

include hc

/-- R187: what the reset leaves in place of what it found, but for records, outputs, shuttle and queue. -/
theorem resetPart_rest : s.resetPart cold none =
    { recordsRestored s cold with
        memory := { (recordsRestored s cold).memory with stackRecs := (s.resetPart cold none).memory.stackRecs }
        outputs := (s.resetPart cold none).outputs
        shuttle := (s.resetPart cold none).shuttle
        queue := (s.resetPart cold none).queue
        work := (s.resetPart cold none).work
        counters := vtab (counterAfterReset (recordsRestored s cold) cold)
        attention :=
          { latched := (recordsRestored s cold).attention.latched |||
              causeWhen .recordDamaged (((List.finRange 4).map RecordRef.counter).any (recordsRestored s cold).isDamaged)
            enabled := 0x0FFF
            qualityStop := false } } := by
  have hmoved := (lanesRestored_lanes cold hc).moved.rest
  have hgrant : (queueRestored s cold).grant =
      { recordsRestored s cold with
          memory := { (recordsRestored s cold).memory with stackRecs := (queueRestored s cold).grant.memory.stackRecs }
          outputs := (queueRestored s cold).grant.outputs
          shuttle := (queueRestored s cold).grant.shuttle
          queue := (queueRestored s cold).queue
          work := (queueRestored s cold).work } := by
    refine (queueRestored_granted cold hc).rest.trans ?_
    generalize (queueRestored s cold).grant = g
    unfold queueRestored
    obtain ⟨recs, outs, hq⟩ : ∃ recs outs, lanesRestored s cold =
        { recordsRestored s cold with
            memory := { (recordsRestored s cold).memory with stackRecs := recs }, outputs := outs } := ⟨_, _, hmoved⟩
    rw [hq]
    rfl
  have hreset := resetPart_granted cold hc
  refine hreset.trans ?_
  rw [hreset]
  obtain ⟨recs, outs, unit, queue, work, hg⟩ : ∃ recs outs unit queue work, (queueRestored s cold).grant =
      { recordsRestored s cold with
          memory := { (recordsRestored s cold).memory with stackRecs := recs }
          outputs := outs, shuttle := unit, queue := queue, work := work } := ⟨_, _, _, _, _, hgrant⟩
  rw [hg]
  rfl

/-- R60, R159: the working copies after a reset. -/
theorem resetPart_settings : (s.resetPart cold none).work =
    if s.memory.geometry.damaged then
      { Settings.default with capacity := max 12 (s.resetPart cold none).queue.entries.length }
    else s.memory.geometry.settings := by
  have hrest := (lanesRestored_lanes cold hc).moved.rest
  have hwork : (lanesRestored s cold).work = workRestored s := by
    rw [hrest]
    rfl
  have hdam : ((lanesRestored s cold).resetShuttle cold).geometryDamaged = s.memory.geometry.damaged := by
    show (lanesRestored s cold).isDamaged .geometry = _
    rw [hrest]
    exact isDamaged_eq_marked rfl .geometry
  have hlen : (queueRestored s cold).queue.entries.length =
      ((lanesRestored s cold).resetShuttle cold).deliveredInOrder.length := List.length_map _
  rw [resetPart_work cold hc, resetPart_queue cold hc, hlen]
  unfold queueRestored State.rebuildQueue
  dsimp only
  rw [hdam]
  rw [show ((lanesRestored s cold).resetShuttle cold).work = workRestored s from hwork]
  unfold workRestored
  split <;> rfl

/-- R187: the causes latched by the damage marks of the image. -/
theorem resetPart_latched : (s.resetPart cold none).attention.latched =
    if s.memory.geometry.damaged = true ∨ (∃ j : JobSlot, s.memory.jobRecs[j].state = .damaged) ∨
        (∃ l : Lane, s.memory.laneRecs[l].damaged = true) ∨ (∃ c : CounterNo, s.memory.counterRecs[c].damaged = true)
    then Attention.recordDamaged.set else 0 := by
  have hcounters : ((List.finRange 4).map RecordRef.counter).any (recordsRestored s cold).isDamaged = true ↔
      ∃ c : CounterNo, s.memory.counterRecs[c].damaged = true := by
    have hmarked (c : CounterNo) : (recordsRestored s cold).isDamaged (.counter c) = s.memory.counterRecs[c].damaged :=
      isDamaged_eq_marked rfl (.counter c)
    simp only [List.any_map, List.any_eq_true, List.mem_finRange, true_and, Function.comp_apply, hmarked]
  have hlatched : (recordsRestored s cold).attention.latched =
      causeWhen .recordDamaged s.memory.geometry.damaged ||| causeWhen .recordDamaged (tablesMarked s cold) := rfl
  rw [resetPart_rest cold hc]
  dsimp only
  rw [hlatched, causeWhen_or, causeWhen_or]
  unfold causeWhen
  simp only [Bool.or_eq_true, hcounters, tablesMarked_iff, or_assoc]

/-- R116: the job slots after a reset. -/
theorem resetPart_jobs (j : JobSlot) : (s.resetPart cold none).memory.jobRecs[j] =
    if s.memory.jobRecs[j].state = .ending then { s.memory.jobRecs[j] with state := .empty } else s.memory.jobRecs[j] := by
  rw [resetPart_rest cold hc]
  exact vtab_get (fun j => restoredJob s.memory.jobRecs[j]) j

/-- R172: the counters after a reset. -/
theorem resetPart_counters (c : CounterNo) : (s.resetPart cold none).counters[c] =
    if cold = true ∨ s.memory.counterRecs[c].damaged = true then
      { config := s.memory.counterRecs[c], working := 0, published := 0, rows := 0 }
    else { s.counters[c] with config := s.memory.counterRecs[c] } := by
  have hoff : (recordsRestored s cold).counterOff c = s.memory.counterRecs[c].damaged :=
    isDamaged_eq_marked rfl (.counter c)
  have hcounter : (s.resetPart cold none).counters[c] = counterAfterReset (recordsRestored s cold) cold c := by
    rw [resetPart_rest cold hc]
    exact vtab_get _ c
  rw [hcounter, counterAfterReset, hoff]
  simp only [Bool.or_eq_true]
  rfl

/-- R99, R116: a lane is ACTIVE after a reset when its record enables it for an ACTIVE job without serials, else OFF. -/
theorem resetPart_lane (l : Lane) {runs : Prop}
    (hruns : runs ↔ s.memory.laneRecs[l].damaged = false ∧ s.memory.laneRecs[l].enabled = true ∧
      ∃ j, s.memory.laneRecs[l].slot = some j ∧ s.memory.jobRecs[j].state = .active ∧
        s.memory.jobRecs[j].serialized = false) :
    (runs → (s.resetPart cold none).lanes[l] = { LaneUnit.reset with run := .active }) ∧
      (¬runs → (s.resetPart cold none).lanes[l] = LaneUnit.reset) := by
  have hlane : (s.resetPart cold none).lanes[l] =
      { LaneUnit.reset with run := runAfterReset (tablesRestored s cold) l } := by
    rw [resetPart_rest cold hc]
    exact vtab_get _ l
  have hdam : (tablesRestored s cold).isDamaged (.lane l) = s.memory.laneRecs[l].damaged :=
    isDamaged_eq_marked rfl (.lane l)
  have hjob (j : JobSlot) : (tablesRestored s cold).job j = restoredJob s.memory.jobRecs[j] := by
    rw [job_image _ j rfl]
    exact vtab_get _ j
  have hrun : runAfterReset (tablesRestored s cold) l = .active ↔ runs := by
    have hrec : (tablesRestored s cold).laneRec l =
        if s.memory.laneRecs[l].damaged then LaneRecord.treated else s.memory.laneRecs[l] := by
      rw [State.laneRec, hdam]
      rfl
    have hactive (j : JobSlot) := restoredJob_state (r := s.memory.jobRecs[j]) (st := .active) nofun nofun
    rw [hruns, runAfterReset, hrec]
    simp only [hjob, hactive, restoredJob_serialized]
    generalize s.memory.laneRecs[l] = r
    cases hdamaged : r.damaged
    case true => exact iff_of_false nofun (fun h => nomatch h.1)
    case false =>
      rw [if_neg Bool.false_ne_true]
      cases r.slot <;> simp
  rw [hlane]
  refine ⟨fun h => by rw [hrun.mpr h], fun h => ?_⟩
  rw [(runAfterReset_cases _ l).resolve_right fun ha => h (hrun.mp ha)]
  rfl

end

end Sys2Proof.Proofs
end

section
/-! SUPPORT. What the scan of a reset leaves beside the record image, its flipped bits, its count and its causes, is carried
unchanged through the other steps of the reset. -/

namespace Sys2Proof.Proofs

open Sys2Proof Sys2Proof.Machine Sys2Proof.Laws

/-! ### The overlay (R179) -/

/-- The state `u` with the bits `F` still flipped, `k` corrected words more and the causes `L` latched too. -/
def withScan (F : List Flip) (k : Nat) (L : BitVec 16) (u : State) : State :=
  { u with
      memory := { u.memory with flips := F, corrected := satAdd u.memory.corrected k }
      attention := { u.attention with latched := u.attention.latched ||| L } }

/-- R159: the order of the queue depends on the stack records alone. -/
theorem deliveredInOrder_congr {a b : State} (h : ∀ n, a.stack n = b.stack n) :
    a.deliveredInOrder = b.deliveredInOrder := by
  have hinsert (n : StackNo) (ms : List StackNo) : insertDelivered a n ms = insertDelivered b n ms := by
    induction ms with
    | nil => rfl
    | cons m ms ih => rw [insertDelivered, insertDelivered, ih, seqOf, seqOf, seqOf, seqOf, h, h]
  unfold State.deliveredInOrder
  rw [funext fun n => funext (hinsert n)]
  simp only [h]

section
variable {F : List Flip} {k : Nat} {L : BitVec 16} (u : State)

theorem raiseIfDamaged_withScan (refs : List RecordRef) :
    (withScan F k L u).raiseIfDamaged refs = withScan F k L (u.raiseIfDamaged refs) := by
  rw [raiseIfDamaged_latched, raiseIfDamaged_latched]
  have hcauses (x : BitVec 16) : u.attention.latched ||| L ||| x = u.attention.latched ||| x ||| L := by
    rw [BitVec.or_assoc, BitVec.or_comm L, ← BitVec.or_assoc]
  unfold withScan
  dsimp only
  rw [hcauses]
  rfl

theorem restoreGeometry_withScan (cold : Bool) :
    (withScan F k L u).restoreGeometry cold = withScan F k L (u.restoreGeometry cold) := by
  unfold State.restoreGeometry
  rw [raiseIfDamaged_withScan]
  rfl

theorem restoreJob_withScan (j : JobSlot) : (withScan F k L u).restoreJob j = withScan F k L (u.restoreJob j) := by
  unfold State.restoreJob
  rw [apply_ite (withScan F k L)]
  rfl

theorem restoreLanes_withScan : (withScan F k L u).restoreLanes = withScan F k L u.restoreLanes :=
  raiseIfDamaged_withScan { u with lanes := vtab (fun l => { LaneUnit.reset with run := runAfterReset u l }) } _

theorem restoreStack_withScan (n : StackNo) :
    (withScan F k L u).restoreStack n = withScan F k L (u.restoreStack n) := by
  unfold State.restoreStack
  rw [apply_ite (withScan F k L)]
  rfl

theorem restoreSeal_withScan (l : Lane) : (withScan F k L u).restoreSeal l = withScan F k L (u.restoreSeal l) := by
  have hopen : (withScan F k L u).openOf l = u.openOf l := rfl
  unfold State.restoreSeal
  rw [hopen]
  split
  next h =>
    rw [if_pos (by exact h)]
    split <;> rfl
  next h => rw [if_neg (by exact h)]

theorem moveComplete_withScan (n : StackNo) :
    (withScan F k L u).moveComplete n = withScan F k L (u.moveComplete n) := by
  unfold State.moveComplete
  dsimp only
  rw [apply_ite (withScan F k L), apply_ite (withScan F k L)]
  rfl

theorem restoreComplete_withScan (l : Lane) (n : StackNo) :
    (withScan F k L u).restoreComplete l n = withScan F k L (u.restoreComplete l n) := by
  unfold State.restoreComplete
  rw [moveComplete_withScan]
  exact (apply_ite (withScan F k L) _ _ _).symm

/-- A push by a reader that changes nothing. -/
theorem pushHeld_withScan (l : Lane) :
    State.pushHeldWith (fun _ t => t) l (withScan F k L u) =
      withScan F k L (State.pushHeldWith (fun _ t => t) l u) := by
  have hheld : (withScan F k L u).heldOf l = u.heldOf l := rfl
  unfold State.pushHeldWith
  rw [hheld]
  cases u.heldOf l
  case none => rfl
  case some n =>
    dsimp only
    rw [apply_ite (withScan F k L), apply_ite (withScan F k L)]
    rfl

theorem restorePush_withScan (l : Lane) : (withScan F k L u).restorePush l = withScan F k L (u.restorePush l) := by
  unfold State.restorePush
  rw [pushHeld_withScan]
  exact (apply_ite (withScan F k L) _ _ _).symm

theorem queue_withScan (cold : Bool) :
    ((withScan F k L u).resetShuttle cold).rebuildQueue = withScan F k L (u.resetShuttle cold).rebuildQueue := by
  have horder : ((withScan F k L u).resetShuttle cold).deliveredInOrder = (u.resetShuttle cold).deliveredInOrder :=
    deliveredInOrder_congr fun _ => rfl
  unfold State.rebuildQueue
  rw [horder]
  rfl

theorem restoreCounters_withScan (cold : Bool) :
    (withScan F k L u).restoreCounters cold = withScan F k L (u.restoreCounters cold) :=
  raiseIfDamaged_withScan { u with
    counters := vtab (counterAfterReset u cold)
    attention := { u.attention with enabled := 0x0FFF, qualityStop := false } } _

end

end Sys2Proof.Proofs
end

section
/-! SUPPORT. The grant at the end of a reset, when all bits still flipped stand in marked records: its reads change nothing. -/

namespace Sys2Proof.Proofs

open Sys2Proof Sys2Proof.Machine Sys2Proof.Laws

/-! ### An image whose flipped bits all stand in marked records (R179, R181) -/

/-- No record stands in the damaged set, and every flipped bit stands in a record that carries its mark. -/
structure Covered (s : State) : Prop where
  damaged : s.memory.damagedSet = []
  marks : ∀ f ∈ s.memory.flips, s.marked f.ref = true

/-- A reader that changes nothing. -/
def stillReader : Reader := fun _ s => s

theorem stillReader_apply (ref : RecordRef) (s : State) : stillReader ref s = s := rfl

theorem readAll_still (refs : List RecordRef) (s : State) : readAll stillReader refs s = s := by
  unfold readAll
  induction refs with
  | nil => rfl
  | cons r rs ih => exact ih

theorem startTransfer_still (s : State) (l : Lane) (n : StackNo) : State.startTransfer stillReader l n s =
    (State.pushHeldWith stillReader l (transferStarted s l n)).unblockLanes := by
  unfold State.startTransfer transferStarted
  dsimp only
  by_cases h : s.work.arbiter = .weighted
  · rw [if_pos (by exact h), if_pos h]
    rfl
  · rw [if_neg (by exact h), if_neg h]
    rfl

section
variable {s : State} (hs : Covered s)
include hs

theorem Covered.read (ref : RecordRef) : readRecord ref s = s := by
  cases hm : s.marked ref with
  | true => exact readRecord_damaged ref s ((isDamaged_eq_marked hs.damaged ref).trans hm)
  | false =>
    refine readOfCleanRecordChangesNothing s ref fun f hf href => ?_
    subst href
    exact Bool.false_ne_true (hm.symm.trans (hs.marks f hf))

theorem Covered.readAll (refs : List RecordRef) : readAll readRecord refs s = s := by
  unfold Machine.readAll
  induction refs with
  | nil => rfl
  | cons r rs ih => rw [List.foldl_cons, hs.read r, ih]

/-- R128: the push of a HELD record. -/
theorem Covered.pushHeld (l : Lane) : State.pushHeldWith readRecord l s = State.pushHeldWith stillReader l s := by
  unfold State.pushHeldWith
  simp only [hs.read]
  rfl

/-- R142, R143: the choice of a lane. -/
theorem Covered.chooseLane : State.chooseLane readRecord s = State.chooseLane stillReader s ∧
    Covered (State.chooseLane stillReader s).1 := by
  unfold State.chooseLane
  simp only [hs.readAll, readAll_still]
  refine ⟨trivial, ?_⟩
  split
  · exact hs
  · split
    · exact hs
    · split
      · exact ⟨hs.damaged, hs.marks⟩
      · exact hs

/-- A record that carries no damage mark holds no flipped bit, so its write uncovers none. -/
theorem Covered.setStack {n : StackNo} (hn : (s.stack n).state ≠ .quarantined .damaged) (r : StackRecord) :
    Covered (s.setStack n r) := by
  refine ⟨hs.damaged, fun f hf => ?_⟩
  have hmark := hs.marks f hf
  rw [stack_image s n hs.damaged] at hn
  cases href : f.ref with
  | stack m =>
    rw [href] at hmark
    have hmn : n ≠ m := by
      rintro rfl
      exact hn (beq_iff_eq.mp hmark)
    show ((vset s.memory.stackRecs n r)[m].state == _) = true
    rw [vset_get, if_neg hmn]
    exact hmark
  | geometry =>
    rw [href] at hmark
    exact hmark
  | job j =>
    rw [href] at hmark
    exact hmark
  | lane l =>
    rw [href] at hmark
    exact hmark
  | counter c =>
    rw [href] at hmark
    exact hmark

/-- R144: the transfer of a READY record. -/
theorem Covered.startTransfer {l : Lane} {n : StackNo} (hn : (s.stack n).state = .ready) :
    State.startTransfer readRecord l n s = State.startTransfer stillReader l n s := by
  have hset := hs.setStack (by rw [hn]; exact nofun) { s.stack n with state := .transfer }
  have hstarted : Covered (transferStarted s l n) := ⟨hset.damaged, hset.marks⟩
  rw [startTransfer_eq, startTransfer_still, ← hstarted.pushHeld]

/-- R141 to R144: the grant. -/
theorem Covered.grant : s.grant = State.grantWith stillReader s := by
  obtain ⟨hchoose, hchosen⟩ := hs.chooseLane
  unfold State.grant State.grantWith
  rw [hchoose]
  generalize State.chooseLane stillReader s = c at hchosen
  dsimp only
  split
  · split
    · rfl
    · split
      · rfl
      · rw [hchosen.read, stillReader_apply]
        exact ite_congr rfl (fun hready => hchosen.startTransfer hready.2.1) fun _ => rfl
  · rfl

end

/-! ### The grant carries what the scan left -/

section
variable {F : List Flip} {k : Nat} {L : BitVec 16} (u : State)

theorem chooseLane_withScan : State.chooseLane stillReader (withScan F k L u) =
    (withScan F k L (State.chooseLane stillReader u).1, (State.chooseLane stillReader u).2) := by
  have hwork : (withScan F k L u).work = u.work := rfl
  have hwinner : (withScan F k L u).weightedWinner = u.weightedWinner := rfl
  have hcan : (withScan F k L u).canGrant = u.canGrant := rfl
  unfold State.chooseLane
  simp only [readAll_still, hwork, hwinner, hcan]
  split
  · rfl
  · split
    · rfl
    · split <;> rfl

theorem startTransfer_withScan (l : Lane) (n : StackNo) : State.startTransfer stillReader l n (withScan F k L u) =
    withScan F k L (State.startTransfer stillReader l n u) := by
  have hstarted : transferStarted (withScan F k L u) l n = withScan F k L (transferStarted u l n) := rfl
  rw [startTransfer_still, startTransfer_still, hstarted]
  exact congrArg State.unblockLanes (pushHeld_withScan _ l)

theorem grant_withScan :
    State.grantWith stillReader (withScan F k L u) = withScan F k L (State.grantWith stillReader u) := by
  have hcan (t : State) : (withScan F k L t).canGrant = t.canGrant := rfl
  have hready (t : State) (l : Lane) : (withScan F k L t).readyOf l = t.readyOf l := rfl
  have hstack (t : State) (n : StackNo) : (withScan F k L t).stack n = t.stack n := rfl
  unfold State.grantWith
  rw [hcan, chooseLane_withScan]
  generalize State.chooseLane stillReader u = c
  simp only [hready, stillReader_apply, startTransfer_withScan, hcan, hstack]
  split
  · split
    · rfl
    · split
      · rfl
      · exact (apply_ite (withScan F k L) _ _ _).symm
  · rfl

end

end Sys2Proof.Proofs
end

section
/-! SUPPORT. The scan of a reset on an image in which no word holds more than two flipped bits: what it makes of the records
met so far. -/

namespace Sys2Proof.Proofs

open Sys2Proof Sys2Proof.Machine Sys2Proof.Laws

/-! ### Counts and causes that add up (R167, R174) -/

theorem toNat_satAdd (c : Count) (k : Nat) : (satAdd c k).toNat = min 65535 (c.toNat + k) := by
  unfold satAdd
  split
  next h =>
    rw [Nat.min_eq_left h]
    rfl
  next h =>
    rw [BitVec.toNat_ofNat, Nat.mod_eq_of_lt (by omega), Nat.min_eq_right (by omega)]

/-- R167: a count increased twice is increased by the sum. -/
theorem satAdd_satAdd (c : Count) (j k : Nat) : satAdd (satAdd c j) k = satAdd c (j + k) := by
  refine BitVec.eq_of_toNat_eq ?_
  rw [toNat_satAdd, toNat_satAdd, toNat_satAdd]
  omega

theorem withScan_withScan (F G : List Flip) (j k : Nat) (L M : BitVec 16) (u : State) :
    withScan G k M (withScan F j L u) = withScan G (j + k) (L ||| M) u := by
  unfold withScan
  dsimp only
  rw [satAdd_satAdd, BitVec.or_assoc]

/-! ### What the code reports of at most two flipped bits (R179) -/

theorem wordReport_uncorrectable {bits : List Nat} (h : bits.length ≤ 2) :
    wordReport bits = .uncorrectable ↔ bits.length = 2 := by
  match bits, h with
  | [], _ => exact iff_of_false nofun nofun
  | [_], _ => exact iff_of_false nofun nofun
  | [_, _], _ => exact iff_of_true rfl rfl

section
variable {s : State} {ref : RecordRef} (hfew : ∀ w, (s.wordFlips ref w).length ≤ 2)
include hfew

theorem uncorrectable_iff : s.uncorrectable ref = true ↔ ∃ w, w < ref.words ∧ (s.wordFlips ref w).length = 2 := by
  unfold State.uncorrectable State.reports
  simp only [List.any_map, List.any_eq_true, List.mem_range, Function.comp_apply, beq_iff_eq,
    wordReport_uncorrectable (hfew _)]

/-- R179: the words with one flipped bit are those corrected. -/
theorem length_singleErrors : (s.singleErrors ref).length =
    ((List.range ref.words).filter (fun w => (s.wordFlips ref w).length == 1)).length := by
  unfold State.singleErrors State.reports
  induction List.range ref.words with
  | nil => rfl
  | cons w ws ih =>
    have hw := hfew w
    rw [List.map_cons, List.filterMap_cons, List.filter_cons]
    match s.wordFlips ref w, hw with
    | [], _ => exact ih
    | [_], _ => exact congrArg Nat.succ ih
    | [_, _], _ => exact ih

/-- R179: a record without an uncorrectable word is corrected, its corrected words written back and counted. -/
theorem correct_withScan (hp : s.pfail = false) : s.correct ref =
    withScan (s.memory.flips.filter (fun f => f.ref != ref)) (s.singleErrors ref).length
      (causeWhen .recordCorrected (decide ((s.singleErrors ref).length ≠ 0))) s := by
  have hself : s.misread ref = s := misread_self (beyondCode_nil fun w => Nat.lt_succ_of_le (hfew w))
  have hleft : s.flipsAfterRead ref = s.memory.flips.filter (fun f => f.ref != ref) := by
    rw [State.flipsAfterRead, hp]
    exact List.append_nil _
  unfold State.correct
  rw [hself, hleft]
  cases s.singleErrors ref with
  | nil =>
    unfold withScan causeWhen
    simp
  | cons e es => rfl

end

/-! ### The records scanned so far (R187, step 1) -/

/-- Induction along a list from its end, as the scan goes on from the records met so far. -/
theorem snoc_induction {α : Type} {P : List α → Prop} (nil : P []) (snoc : ∀ rs r, P rs → P (rs ++ [r]))
    (rs : List α) : P rs := by
  have hreverse (ps : List α) : P ps.reverse := by
    induction ps with
    | nil => exact nil
    | cons p ps ih =>
      rw [List.reverse_cons]
      exact snoc _ p ih
  rw [← List.reverse_reverse rs]
  exact hreverse rs.reverse

/-- The bits still flipped when the records `rs` have been scanned: those of marked records and of records not yet met. -/
def flipsLeft (s : State) (rs : List RecordRef) : List Flip :=
  s.memory.flips.filter (fun f => s.marked f.ref || !decide (f.ref ∈ rs))

/-- The words of a record that the scan corrects: those with one flipped bit, unless the record is marked or found
damaged. -/
def correctedOf (s : State) (found : RecordRef → Bool) (ref : RecordRef) : List (RecordRef × Nat) :=
  if s.marked ref || found ref then []
  else ((List.range ref.words).filter (fun w => (s.wordFlips ref w).length == 1)).map (Prod.mk ref)

/-- The damage rewrite of each record of a list that is found damaged. -/
def rewriteFound (found : RecordRef → Bool) (s : State) (rs : List RecordRef) : State :=
  rs.foldl (fun t r => if found r then t.rewrite r else t) s

/-- The causes that the scan of the records `rs` raises. -/
def scanCauses (s : State) (found : RecordRef → Bool) (rs : List RecordRef) : BitVec 16 :=
  causeWhen .recordDamaged (rs.any found) ||| causeWhen .recordCorrected (decide ((rs.flatMap (correctedOf s found)).length ≠ 0))

theorem rewrite_marked_other (s : State) {r ref : RecordRef} (h : ref ≠ r) : (s.rewrite r).marked ref = s.marked ref := by
  have hne {α : Type} {n : Nat} {f : Fin n → RecordRef} {i j : Fin n} (hr : f i ≠ f j) (v : Vector α n) (x : α) :
      (vset v j x)[i] = v[i] := by
    rw [vset_get, if_neg]
    rintro rfl
    exact hr rfl
  cases r with
  | geometry =>
    cases ref with
    | geometry => exact absurd rfl h
    | _ => rfl
  | job j =>
    cases ref with
    | job i => exact congrArg (fun r : JobRecord => r.state == .damaged) (hne h _ _)
    | _ => rfl
  | lane j =>
    cases ref with
    | lane i => exact congrArg LaneRecord.damaged (hne h _ _)
    | _ => rfl
  | stack j =>
    cases ref with
    | stack i => exact congrArg (fun r : StackRecord => r.state == .quarantined .damaged) (hne h _ _)
    | _ => rfl
  | counter j =>
    cases ref with
    | counter i => exact congrArg CounterConfig.damaged (hne h _ _)
    | _ => rfl

theorem rewrite_frame (s : State) (r : RecordRef) :
    (s.rewrite r).pfail = s.pfail ∧ (s.rewrite r).memory.damagedSet = s.memory.damagedSet := by
  cases r <;> exact ⟨rfl, rfl⟩

theorem rewrite_withScan (F : List Flip) (k : Nat) (L : BitVec 16) (u : State) (r : RecordRef) :
    (withScan F k L u).rewrite r = withScan F k L (u.rewrite r) := by
  cases r <;> rfl

theorem rewriteFound_snoc (found : RecordRef → Bool) (s : State) (rs : List RecordRef) (r : RecordRef) :
    rewriteFound found s (rs ++ [r]) =
      if found r then (rewriteFound found s rs).rewrite r else rewriteFound found s rs := by
  rw [rewriteFound, List.foldl_append]
  rfl

theorem rewriteFound_frame (found : RecordRef → Bool) (s : State) (rs : List RecordRef) :
    (rewriteFound found s rs).pfail = s.pfail ∧
      (rewriteFound found s rs).memory.damagedSet = s.memory.damagedSet ∧
      ∀ ref, ref ∉ rs → (rewriteFound found s rs).marked ref = s.marked ref := by
  induction rs using snoc_induction with
  | nil => exact ⟨rfl, rfl, fun _ _ => rfl⟩
  | snoc rs r ih =>
    obtain ⟨hp, hd, hm⟩ := ih
    rw [rewriteFound_snoc]
    split
    · obtain ⟨hp', hd'⟩ := rewrite_frame (rewriteFound found s rs) r
      refine ⟨hp'.trans hp, hd'.trans hd, fun ref href => ?_⟩
      rw [List.mem_append, List.mem_singleton, not_or] at href
      rw [rewrite_marked_other _ href.2, hm ref href.1]
    · exact ⟨hp, hd, fun ref href => hm ref fun h => href (List.mem_append_left _ h)⟩

theorem flipsLeft_snoc_marked {s : State} {r : RecordRef} (h : s.marked r = true) (rs : List RecordRef) :
    flipsLeft s (rs ++ [r]) = flipsLeft s rs := by
  refine List.filter_congr fun f _ => ?_
  by_cases hf : f.ref = r
  · rw [hf, h, Bool.true_or, Bool.true_or]
  · simp [hf]

theorem flipsLeft_snoc_unmarked {s : State} {r : RecordRef} (h : s.marked r = false) (rs : List RecordRef) :
    flipsLeft s (rs ++ [r]) = (flipsLeft s rs).filter (fun f => f.ref != r) := by
  unfold flipsLeft
  rw [List.filter_filter]
  refine List.filter_congr fun f _ => ?_
  by_cases hf : f.ref = r
  · simp [hf, h]
  · simp [hf]

theorem scanCauses_snoc (s : State) (found : RecordRef → Bool) (rs : List RecordRef) (r : RecordRef) :
    scanCauses s found (rs ++ [r]) = scanCauses s found rs |||
      (causeWhen .recordDamaged (found r) ||| causeWhen .recordCorrected (decide ((correctedOf s found r).length ≠ 0))) := by
  have hfound : (rs ++ [r]).any found = (rs.any found || found r) := by
    rw [List.any_append, List.any_cons, List.any_nil, Bool.or_false]
  have hcorrected : decide (((rs ++ [r]).flatMap (correctedOf s found)).length ≠ 0) =
      (decide ((rs.flatMap (correctedOf s found)).length ≠ 0) || decide ((correctedOf s found r).length ≠ 0)) := by
    rw [List.flatMap_append, List.flatMap_singleton, List.length_append, ← Bool.decide_or]
    exact decide_eq_decide.mpr (by omega)
  unfold scanCauses
  rw [hfound, hcorrected, ← causeWhen_or, ← causeWhen_or]
  ac_rfl

theorem singleErrors_congr {a b : State} {ref : RecordRef} (h : ∀ w, a.wordFlips ref w = b.wordFlips ref w) :
    a.singleErrors ref = b.singleErrors ref := by
  simp only [State.singleErrors, State.reports, h]

theorem withScan_none (u : State) : withScan u.memory.flips 0 0 u = u := by
  have hlatched : u.attention.latched ||| 0 = u.attention.latched := BitVec.or_zero
  unfold withScan
  rw [satAdd_zero, hlatched]

/-- R181: a cause raised over the overlay. -/
theorem raise_withScan (F : List Flip) (k : Nat) (L : BitVec 16) (u : State) (a : Attention) :
    (withScan F k L u).raise a = withScan F k (L ||| a.set) u := by
  unfold withScan State.raise
  dsimp only
  rw [BitVec.or_assoc]

theorem causes_none (L : BitVec 16) :
    L ||| (causeWhen .recordDamaged false ||| causeWhen .recordCorrected (decide (0 ≠ 0))) = L := by
  simp [causeWhen]

/-- R187: the bits flipped in the records not yet met are those found. -/
theorem wordFlips_left (s u : State) {rs : List RecordRef} {r : RecordRef} (hr : r ∉ rs) (k : Nat) (L : BitVec 16)
    (w : Nat) : (withScan (flipsLeft s rs) k L u).wordFlips r w = s.wordFlips r w := by
  refine congrArg (List.map Flip.bit) ?_
  show (flipsLeft s rs).filter _ = s.memory.flips.filter _
  unfold flipsLeft
  rw [List.filter_filter]
  refine List.filter_congr fun f _ => ?_
  by_cases hf : f.ref = r
  · simp [hf, hr]
  · simp [hf]

section
variable {s : State} {found : RecordRef → Bool} (hp : s.pfail = false) (hd : s.memory.damagedSet = [])
  (hfew : ∀ ref w, (s.wordFlips ref w).length ≤ 2)
  (hfound : ∀ ref, found ref = true ↔ s.marked ref = false ∧ ∃ w, w < ref.words ∧ (s.wordFlips ref w).length = 2)
include hp hd hfew hfound

/-- R187, step 1: the scan of one record after those of `rs`. -/
theorem scanRecord_withScan {rs : List RecordRef} {r : RecordRef} (hr : r ∉ rs) (k : Nat) (L : BitVec 16) :
    scanRecord r (withScan (flipsLeft s rs) k L (rewriteFound found s rs)) =
      withScan (flipsLeft s (rs ++ [r])) (k + (correctedOf s found r).length)
        (L ||| (causeWhen .recordDamaged (found r) ||| causeWhen .recordCorrected (decide ((correctedOf s found r).length ≠ 0))))
        (rewriteFound found s (rs ++ [r])) := by
  obtain ⟨hpower, hset, hmark⟩ := rewriteFound_frame found s rs
  rw [rewriteFound_snoc]
  generalize rewriteFound found s rs = T at hpower hset hmark
  have hflips := wordFlips_left s T hr k L
  have hfew' (w : Nat) : ((withScan (flipsLeft s rs) k L T).wordFlips r w).length ≤ 2 := hflips w ▸ hfew r w
  have hdamaged : (withScan (flipsLeft s rs) k L T).isDamaged r = s.marked r := by
    rw [isDamaged_eq_marked (by exact hset.trans hd), ← hmark r hr]
    cases r <;> rfl
  have hbad : (withScan (flipsLeft s rs) k L T).uncorrectable r = true ↔
      ∃ w, w < r.words ∧ (s.wordFlips r w).length = 2 := by
    rw [uncorrectable_iff hfew']
    simp only [hflips]
  unfold scanRecord
  rw [hdamaged]
  cases hm : s.marked r with
  | true =>
    have hnot : found r = false := by
      rw [← Bool.not_eq_true, hfound r, hm]
      exact fun h => nomatch h.1
    have hnone : correctedOf s found r = [] := by
      rw [correctedOf, hm]
      rfl
    rw [hnot, hnone, flipsLeft_snoc_marked hm, List.length_nil, causes_none]
    rfl
  | false =>
    rw [flipsLeft_snoc_unmarked hm]
    cases hf : found r with
    | true =>
      have hnone : correctedOf s found r = [] := by
        rw [correctedOf, hf, Bool.or_true]
        rfl
      have hpower' : (withScan (flipsLeft s rs) k L T).pfail = false := hpower.trans hp
      have hcauses : L ||| (causeWhen .recordDamaged true ||| causeWhen .recordCorrected (decide (0 ≠ 0))) =
          L ||| Attention.recordDamaged.set := by simp [causeWhen]
      rw [hbad.mpr ((hfound r).mp hf).2, hnone, List.length_nil, hcauses, State.markDamaged, hpower', rewrite_withScan]
      exact raise_withScan ((flipsLeft s rs).filter fun f => f.ref != r) k L (T.rewrite r) .recordDamaged
    | false =>
      have hgood : (withScan (flipsLeft s rs) k L T).uncorrectable r = false := by
        rw [← Bool.not_eq_true, hbad]
        exact fun h => Bool.false_ne_true (hf.symm.trans ((hfound r).mpr ⟨hm, h⟩))
      have hlength : (correctedOf s found r).length = ((withScan (flipsLeft s rs) k L T).singleErrors r).length := by
        rw [correctedOf, hm, hf, singleErrors_congr hflips, length_singleErrors (hfew r)]
        exact List.length_map _
      rw [hgood, correct_withScan hfew' (by exact hpower.trans hp), withScan_withScan, hlength]
      have hcauses (x : BitVec 16) : causeWhen .recordDamaged false ||| x = x := BitVec.zero_or
      rw [hcauses]
      rfl

/-- R187, step 1: the scan of the records of a list. -/
theorem foldl_scanRecord {rs : List RecordRef} (hrs : rs.Nodup) : rs.foldl (fun t r => scanRecord r t) s =
    withScan (flipsLeft s rs) (rs.flatMap (correctedOf s found)).length (scanCauses s found rs)
      (rewriteFound found s rs) := by
  induction rs using snoc_induction with
  | nil =>
    have hflips : flipsLeft s [] = s.memory.flips := by simp [flipsLeft]
    have hcauses : scanCauses s found [] = 0 := by simp [scanCauses, causeWhen]
    rw [hflips, hcauses]
    exact (withScan_none s).symm
  | snoc rs r ih =>
    obtain ⟨hrs, -, hr⟩ := List.nodup_append.mp hrs
    have hr : r ∉ rs := fun h => hr r h r (List.mem_singleton_self r) rfl
    rw [List.foldl_append, ih hrs, List.foldl_cons, List.foldl_nil, scanRecord_withScan hp hd hfew hfound hr,
      scanCauses_snoc, List.flatMap_append, List.length_append, List.flatMap_singleton]

end

end Sys2Proof.Proofs
end

section
/-! SUPPORT. O51: the scan of every record, what it leaves of the image, and the rest of the reset after it. -/

namespace Sys2Proof.Proofs

open Sys2Proof Sys2Proof.Machine Sys2Proof.Laws

/-! ### Every record once (R178) -/

theorem mem_allRecords (ref : RecordRef) : ref ∈ allRecords := by
  unfold allRecords
  cases ref <;> simp

theorem allRecords_nodup : allRecords.Nodup := by
  have hmap {n : Nat} {f : Fin n → RecordRef} (hf : Function.Injective f) : ((List.finRange n).map f).Nodup :=
    List.pairwise_map.mpr ((List.nodup_finRange n).imp fun hne h => hne (hf h))
  have hjob : Function.Injective RecordRef.job := fun _ _ h => RecordRef.job.inj h
  have hlane : Function.Injective RecordRef.lane := fun _ _ h => RecordRef.lane.inj h
  have hstack : Function.Injective RecordRef.stack := fun _ _ h => RecordRef.stack.inj h
  have hcounter : Function.Injective RecordRef.counter := fun _ _ h => RecordRef.counter.inj h
  unfold allRecords
  simp only [List.nodup_append, hmap hjob, hmap hlane, hmap hstack, hmap hcounter, List.nodup_cons, List.nodup_nil,
    List.not_mem_nil, not_false_eq_true, and_true, List.mem_append, List.mem_map, List.mem_finRange, true_and, List.mem_singleton]
  refine ⟨⟨⟨?_, ?_⟩, ?_⟩, ?_⟩
  · rintro _ rfl _ ⟨j, rfl⟩
    exact nofun
  · rintro _ (rfl | ⟨j, rfl⟩) _ ⟨l, rfl⟩ <;> exact nofun
  · rintro _ ((rfl | ⟨j, rfl⟩) | ⟨l, rfl⟩) _ ⟨n, rfl⟩ <;> exact nofun
  · rintro _ (((rfl | ⟨j, rfl⟩) | ⟨l, rfl⟩) | ⟨n, rfl⟩) _ ⟨c, rfl⟩ <;> exact nofun

/-! ### What the scan leaves of the image (R181, R187) -/

/-- The image `m` after the damage rewrite of the records found, without flipped bits. -/
def rewrittenImage (found : RecordRef → Bool) (m : RecordMemory) : RecordMemory :=
  { m with
      flips := []
      geometry :=
        if found .geometry then
          { damaged := true
            settings :=
              { pNom := 0, wMark := 0, lossLimit := 0, dDie := 0, wDie := 0, oCut := 0, dGate := 0, lMin := 0, lMax := 0,
                upstream := 0, lead := 0, trail := 0, rRev := 0, filterShift := 0, gain := 0, slew := 0, lTrim := 0,
                tol := 0, wOut := 0, nSettle := 0, capacity := 0, watermark := 0, shuttleTimeout := 0, jamLimit := 0,
                arbiter := .strict, inspection := .required, verdictRate := .b115200, trimRate := .b115200 }
            savedTrim := 0 }
        else m.geometry
      jobRecs := vtab (fun j => if found (.job j) then JobRecord.zero .damaged else m.jobRecs[j])
      laneRecs := vtab (fun l =>
        if found (.lane l) then
          { damaged := true, enabled := false, slot := none, origin := 0, priority := 0, weight := 0 }
        else m.laneRecs[l])
      stackRecs := vtab (fun n => if found (.stack n) then StackRecord.zero (.quarantined .damaged) else m.stackRecs[n])
      counterRecs := vtab (fun c =>
        if found (.counter c) then
          { damaged := true, laneSet := 0, mask := 0, unit := .label, mode := .window, window := 0, threshold := 0,
            action := .attn }
        else m.counterRecs[c]) }

theorem rewriteFound_append (found : RecordRef → Bool) (s : State) (as bs : List RecordRef) :
    rewriteFound found s (as ++ bs) = rewriteFound found (rewriteFound found s as) bs := List.foldl_append

/-- R181: the damage rewrite of one kind of records. -/
theorem rewriteFound_table {α : Type} {n : Nat} {table : State → Vector α n} {put : State → Vector α n → State}
    (hget : ∀ t v, table (put t v) = v) (hput : ∀ t v w, put (put t v) w = put t w) (hself : ∀ t, put t (table t) = t)
    {ref : Fin n → RecordRef} {zero : α} (hrewrite : ∀ t i, t.rewrite (ref i) = put t (vset (table t) i zero))
    (found : RecordRef → Bool) (t : State) : rewriteFound found t ((List.finRange n).map ref) =
      put t (vtab (fun i => if found (ref i) then zero else (table t)[i])) := by
  rw [rewriteFound, List.foldl_map]
  refine foldl_table (P := fun _ => True) (g := fun i x => if found (ref i) then zero else x) hget hput hself
    (fun _ _ _ => trivial) (fun t i _ => ?_) trivial
  split
  · exact hrewrite t i
  · rw [vset_self, hself]

/-- R187: the scan's damage rewrites. -/
theorem rewriteFound_allRecords (found : RecordRef → Bool) (s : State) :
    { rewriteFound found s allRecords with
        memory := { (rewriteFound found s allRecords).memory with flips := [] } } =
      { s with memory := rewrittenImage found s.memory } := by
  have hgeometry : rewriteFound found s [.geometry] =
      { s with memory := { s.memory with geometry := (rewrittenImage found s.memory).geometry } } := by
    unfold rewriteFound rewrittenImage
    cases h : found .geometry <;> simp only [List.foldl_cons, List.foldl_nil, h] <;> rfl
  have hjobs := rewriteFound_table (table := fun t => t.memory.jobRecs) (ref := RecordRef.job)
    (put := fun t v => { t with memory := { t.memory with jobRecs := v } })
    (fun _ _ => rfl) (fun _ _ _ => rfl) (fun _ => rfl) (fun _ _ => rfl) found
  have hlanes := rewriteFound_table (table := fun t => t.memory.laneRecs) (ref := RecordRef.lane)
    (put := fun t v => { t with memory := { t.memory with laneRecs := v } })
    (fun _ _ => rfl) (fun _ _ _ => rfl) (fun _ => rfl) (fun _ _ => rfl) found
  have hstacks := rewriteFound_table (table := fun t => t.memory.stackRecs) (ref := RecordRef.stack)
    (put := fun t v => { t with memory := { t.memory with stackRecs := v } })
    (fun _ _ => rfl) (fun _ _ _ => rfl) (fun _ => rfl) (fun _ _ => rfl) found
  have hcounters := rewriteFound_table (table := fun t => t.memory.counterRecs) (ref := RecordRef.counter)
    (put := fun t v => { t with memory := { t.memory with counterRecs := v } })
    (fun _ _ => rfl) (fun _ _ _ => rfl) (fun _ => rfl) (fun _ _ => rfl) found
  unfold allRecords
  rw [rewriteFound_append, rewriteFound_append, rewriteFound_append, rewriteFound_append, hgeometry, hjobs, hlanes,
    hstacks, hcounters]
  rfl

end Sys2Proof.Proofs
end

section
/-! SUPPORT. O51: the steps after the scan run as they would on the image so left, and carry what the scan left beside it. -/

namespace Sys2Proof.Proofs

open Sys2Proof Sys2Proof.Machine Sys2Proof.Laws

/-! ### The steps under a negated PFAIL (R186, R187) -/

/-- A run of steps, each with PFAIL negated. -/
def runNegated (fs : List ResetStep) (s : State) : State := fs.foldl (fun t f => f { t with pfail := false }) s

theorem runNegated_cons (f : ResetStep) (fs : List ResetStep) (s : State) :
    runNegated (f :: fs) s = runNegated fs (f { s with pfail := false }) := rfl

theorem runNegated_append (fs gs : List ResetStep) (s : State) :
    runNegated (fs ++ gs) s = runNegated gs (runNegated fs s) := List.foldl_append

/-- R187: the steps after the scan and before the grant. -/
def stepsBeforeGrant (cold : Bool) : List ResetStep :=
  (fun s => s.restoreGeometry cold) :: (tableSteps ++ stackSteps ++ [fun s => (s.resetShuttle cold).rebuildQueue])

theorem resetSteps_split (cold : Bool) : resetSteps cold =
    scanSteps ++ (stepsBeforeGrant cold ++ [fun s => s.grant, fun s => s.restoreCounters cold]) := by
  unfold resetSteps stepsBeforeGrant lastSteps
  simp only [List.cons_append, List.append_assoc, List.nil_append]

theorem scanRecord_pfail (ref : RecordRef) (s : State) : (scanRecord ref s).pfail = s.pfail := by
  have hmisread : (s.misread ref).pfail = s.pfail := by
    unfold State.misread
    split
    · rfl
    · cases ref <;> rfl
  unfold scanRecord
  split
  · rfl
  · split
    · unfold State.markDamaged
      split
      · rfl
      · exact (rewrite_frame s ref).1
    · unfold State.correct
      dsimp only
      split <;> exact hmisread

/-- R187, step 1: with PFAIL negated the scan runs as it stands. -/
theorem runNegated_scanSteps {s : State} (hp : s.pfail = false) :
    runNegated scanSteps s = allRecords.foldl (fun t r => scanRecord r t) s := by
  unfold runNegated scanSteps
  rw [List.foldl_map]
  induction allRecords generalizing s with
  | nil => rfl
  | cons r rs ih =>
    rw [List.foldl_cons, List.foldl_cons, pfail_stays hp]
    exact ih ((scanRecord_pfail r s).trans hp)

/-- R187: every step of the kinds before the grant carries the overlay. -/
theorem stepsBeforeGrant_withScan {F : List Flip} {k : Nat} {L : BitVec 16} (cold : Bool) :
    ∀ f ∈ stepsBeforeGrant cold, ∀ u, f (withScan F k L u) = withScan F k L (f u) := by
  intro f hf u
  simp only [stepsBeforeGrant, tableSteps, stackSteps, laneSteps, List.mem_cons, List.mem_append, List.mem_map,
    List.mem_flatMap, List.not_mem_nil, or_false] at hf
  rcases hf with
    rfl | ((⟨j, _, rfl⟩ | rfl) | ⟨n, _, rfl⟩ | ⟨l, _, rfl | ⟨n, _, rfl⟩ | rfl⟩) | rfl
  · exact restoreGeometry_withScan u cold
  · exact restoreJob_withScan u j
  · exact restoreLanes_withScan u
  · exact restoreStack_withScan u n
  · exact restoreSeal_withScan u l
  · exact restoreComplete_withScan u l n
  · exact restorePush_withScan u l
  · exact queue_withScan u cold

theorem runNegated_withScan {F : List Flip} {k : Nat} {L : BitVec 16} {fs : List ResetStep}
    (hf : ∀ f ∈ fs, ∀ u, f (withScan F k L u) = withScan F k L (f u)) (u : State) :
    runNegated fs (withScan F k L u) = withScan F k L (runNegated fs u) := by
  induction fs generalizing u with
  | nil => rfl
  | cons f fs ih =>
    rw [runNegated_cons, runNegated_cons, ← ih fun g hg => hf g (List.mem_cons_of_mem f hg)]
    exact congrArg (runNegated fs) (hf f List.mem_cons_self { u with pfail := false })

/-- R187: on a clean image the steps before the grant leave the state in which the arbiter tests. -/
theorem runNegated_stepsBeforeGrant {v : State} (cold : Bool) (hc : v.clean) :
    runNegated (stepsBeforeGrant cold) (resetBegun v cold) = queueRestored v cold := by
  have hsub : ∀ f ∈ stepsBeforeGrant cold, f ∈ resetSteps cold := fun f hf => by
    rw [resetSteps_split]
    exact List.mem_append_right _ (List.mem_append_left _ hf)
  have hfold := (foldl_negated (stepsBeforeGrant cold) (fun f hf => resetSteps_quiet cold f (hsub f hf))
    (s := resetBegun v cold) ⟨hc, rfl⟩).1
  refine hfold.trans ?_
  unfold stepsBeforeGrant tableSteps stackSteps queueRestored lanesRestored
  simp only [List.foldl_append, List.foldl_cons, List.foldl_map, List.foldl_nil, foldl_flatMap_lanes]
  rw [recordsRestored_eq cold hc]

theorem runNegated_start {fs : List ResetStep} (h : fs ≠ []) (s : State) :
    runNegated fs s = runNegated fs { s with pfail := false } := by
  cases fs with
  | nil => exact absurd rfl h
  | cons f fs => rfl

theorem runNegated_lastSteps (fs : List ResetStep) (cold : Bool) (s : State) :
    runNegated (fs ++ [fun s => s.grant, fun s => s.restoreCounters cold]) s =
      State.restoreCounters { State.grant { runNegated fs s with pfail := false } with pfail := false } cold := by
  rw [runNegated_append]
  generalize runNegated fs s = u
  rfl

/-- R187: the reset as the scan, the steps before the grant, the grant and the counters. -/
theorem resetPart_split (s : State) (cold : Bool) : s.resetPart cold none =
    { State.restoreCounters
        { State.grant { runNegated (stepsBeforeGrant cold)
              (allRecords.foldl (fun t r => scanRecord r t) (resetBegun s cold)) with pfail := false } with
            pfail := false } cold with pfail := false } := by
  have hreset : s.resetPart cold none =
      { runNegated (resetSteps cold) ((s.beforeScan cold).resetVolatile cold) with pfail := false } := by
    unfold State.resetPart runNegated
    exact runSteps_none _ _ _
  have hsteps : resetSteps cold ≠ [] := nofun
  have hscan : runNegated scanSteps (resetBegun s cold) =
      allRecords.foldl (fun t r => scanRecord r t) (resetBegun s cold) := runNegated_scanSteps rfl
  rw [hreset, runNegated_start hsteps, resetSteps_split, runNegated_append, hscan, runNegated_lastSteps]

/-! ### What stays marked until the grant (R181) -/

theorem queueRestored_marked {v : State} (cold : Bool) (hc : v.clean) {ref : RecordRef} (h : v.marked ref = true) :
    (queueRestored v cold).marked ref = true := by
  have hrest := (lanesRestored_lanes cold hc).moved.rest
  cases ref with
  | geometry =>
    show (lanesRestored v cold).memory.geometry.damaged = true
    rw [hrest]
    exact h
  | job j =>
    have hjob : (restoredJob v.memory.jobRecs[j]).state = .damaged :=
      (restoredJob_state (st := .damaged) nofun nofun).mpr (beq_iff_eq.mp h)
    have hrec : (lanesRestored v cold).memory.jobRecs[j] = restoredJob v.memory.jobRecs[j] := by
      rw [hrest]
      exact vtab_get _ j
    show ((lanesRestored v cold).memory.jobRecs[j].state == _) = true
    rw [hrec, hjob]
    rfl
  | lane l =>
    show (lanesRestored v cold).memory.laneRecs[l].damaged = true
    rw [hrest]
    exact h
  | stack n =>
    have hst : v.memory.stackRecs[n].state = .quarantined .damaged := beq_iff_eq.mp h
    have hrec : (lanesRestored v cold).memory.stackRecs[n] = v.memory.stackRecs[n] := by
      rw [← stack_image _ n (lanesRestored_sound cold hc).damaged, lanesRestored_keeps cold hc (by rw [hst]; exact nofun)
        (by rw [hst]; exact nofun) fun l hl => (nomatch hst.symm.trans (laneOff_opened cold hl))]
      exact restoredStack_keeps (by rw [hst]; exact nofun) (by rw [hst]; exact nofun) (by rw [hst]; exact nofun)
    show ((lanesRestored v cold).memory.stackRecs[n].state == _) = true
    rw [hrec, hst]
    rfl
  | counter c =>
    show (lanesRestored v cold).memory.counterRecs[c].damaged = true
    rw [hrest]
    exact h

/-- R187: the steps after the scan on an image whose flipped bits all stand in marked records. -/
theorem resetPart_of_scan {s v : State} (cold : Bool) (hc : v.clean) {F : List Flip} {k : Nat} {L : BitVec 16}
    (hscan : allRecords.foldl (fun t r => scanRecord r t) (resetBegun s cold) = withScan F k L (resetBegun v cold))
    (hF : ∀ f ∈ F, v.marked f.ref = true) : s.resetPart cold none = withScan F k L (v.resetPart cold none) := by
  have hquiet : (queueRestored v cold).sound :=
    have hlanes := lanesRestored_sound cold hc
    ⟨hlanes.clean, hlanes.power, hlanes.damaged⟩
  have hcovered : Covered (withScan F k L (queueRestored v cold)) := by
    refine ⟨hquiet.damaged, fun f hf => ?_⟩
    have hmark := queueRestored_marked cold hc (hF f hf)
    cases hr : f.ref <;> rw [hr] at hmark <;> exact hmark
  have hclean : Covered (queueRestored v cold) := ⟨hquiet.damaged, fun f hf => by
    rw [hquiet.clean] at hf
    exact nomatch hf⟩
  have hgrant : (withScan F k L (queueRestored v cold)).grant = withScan F k L (queueRestored v cold).grant := by
    rw [hcovered.grant, hclean.grant]
    exact grant_withScan _
  have hpower : (queueRestored v cold).grant.pfail = false :=
    (congrArg State.pfail (queueRestored_granted cold hc).rest).trans hquiet.power
  have hpower' : ((queueRestored v cold).grant.restoreCounters cold).pfail = false := by
    rw [restoreCounters_eq]
    exact hpower
  rw [resetPart_split, hscan, runNegated_withScan (stepsBeforeGrant_withScan cold), runNegated_stepsBeforeGrant cold hc,
    pfail_stays (s := withScan F k L (queueRestored v cold)) hquiet.power, hgrant,
    pfail_stays (s := withScan F k L (queueRestored v cold).grant) hpower, restoreCounters_withScan,
    pfail_stays (s := withScan F k L ((queueRestored v cold).grant.restoreCounters cold)) hpower',
    resetPart_queueRestored cold hc]

end Sys2Proof.Proofs
end

section
/-! SUPPORT. O51 assembled: the words that the scan corrects, counted, and the two clauses of the statement. -/

namespace Sys2Proof.Proofs

open Sys2Proof Sys2Proof.Machine Sys2Proof.Laws

/-! ### The words corrected (R179) -/

theorem mem_correctedOf {s : State} {found : RecordRef → Bool} {r ref : RecordRef} {w : Nat} :
    (ref, w) ∈ correctedOf s found r ↔
      r = ref ∧ s.marked r = false ∧ found r = false ∧ w < r.words ∧ (s.wordFlips r w).length = 1 := by
  unfold correctedOf
  cases s.marked r <;> cases found r <;>
    simp [and_comm, and_assoc]

theorem correctedOf_nodup (s : State) (found : RecordRef → Bool) (r : RecordRef) : (correctedOf s found r).Nodup := by
  unfold correctedOf
  split
  · exact List.nodup_nil
  · exact List.pairwise_map.mpr ((List.nodup_range.filter _).imp fun hne h => hne (Prod.mk.inj h).2)

theorem flatMap_correctedOf_nodup (s : State) (found : RecordRef → Bool) :
    (allRecords.flatMap (correctedOf s found)).Nodup := by
  refine List.pairwise_flatMap.mpr ⟨fun r _ => correctedOf_nodup s found r, allRecords_nodup.imp fun hne => ?_⟩
  rintro ⟨ref, w⟩ hp _ hq rfl
  exact hne ((mem_correctedOf.mp hp).1.trans (mem_correctedOf.mp hq).1.symm)

/-- R179: a list of the words with one flipped bit, in records neither marked nor found damaged, holds each word that the
scan corrects once. -/
theorem length_corrected {s : State} {found : RecordRef → Bool} {fixed : List (RecordRef × Nat)} (hnodup : fixed.Nodup)
    (hfixed : ∀ ref w, (ref, w) ∈ fixed ↔
      s.marked ref = false ∧ found ref = false ∧ w < ref.words ∧ (s.wordFlips ref w).length = 1) :
    (allRecords.flatMap (correctedOf s found)).length = fixed.length := by
  refine ((List.perm_ext_iff_of_nodup (flatMap_correctedOf_nodup s found) hnodup).mpr ?_).length_eq
  rintro ⟨ref, w⟩
  rw [hfixed, List.mem_flatMap]
  constructor
  · rintro ⟨r, -, hr⟩
    obtain ⟨rfl, h⟩ := mem_correctedOf.mp hr
    exact h
  · exact fun h => ⟨ref, mem_allRecords ref, mem_correctedOf.mpr ⟨rfl, h⟩⟩

/-! ### The image that the scan leaves (R181, R187) -/

/-- R181: a marked record is marked in the image left, whether or not it was rewritten. -/
theorem rewrittenImage_marked {s : State} {found : RecordRef → Bool} {ref : RecordRef} (h : s.marked ref = true) :
    { s with memory := rewrittenImage found s.memory }.marked ref = true := by
  cases ref with
  | geometry =>
    show (if _ then _ else s.memory.geometry : GeometryRecord).damaged = true
    split
    · rfl
    · exact h
  | job j =>
    show ((vtab _ : Vector JobRecord 16)[j].state == .damaged) = true
    rw [vtab_get]
    split
    · rfl
    · exact h
  | lane l =>
    show (vtab _ : Vector LaneRecord 12)[l].damaged = true
    rw [vtab_get]
    split
    · rfl
    · exact h
  | stack n =>
    show ((vtab _ : Vector StackRecord 64)[n].state == .quarantined .damaged) = true
    rw [vtab_get]
    split
    · rfl
    · exact h
  | counter c =>
    show (vtab _ : Vector CounterConfig 4)[c].damaged = true
    rw [vtab_get]
    split
    · rfl
    · exact h

theorem withScan_flips (F : List Flip) (k : Nat) (L : BitVec 16) (u : State) :
    withScan F k L { u with memory := { u.memory with flips := [] } } = withScan F k L u := rfl

section
variable {s : State} {found : RecordRef → Bool} (cold : Bool)
  (hfew : ∀ ref w, (s.wordFlips ref w).length ≤ 2)
  (hfound : ∀ ref, found ref = true ↔ s.marked ref = false ∧ ∃ w, w < ref.words ∧ (s.wordFlips ref w).length = 2)
include hfew hfound

/-- R187, step 1: the scan of all records before the other steps of a reset. -/
theorem scan_resetBegun : allRecords.foldl (fun t r => scanRecord r t) (resetBegun s cold) =
    withScan (s.memory.flips.filter (fun f => s.marked f.ref)) (allRecords.flatMap (correctedOf s found)).length
      (scanCauses s found allRecords) (resetBegun { s with memory := rewrittenImage found s.memory } cold) := by
  have hmarked : (resetBegun s cold).marked = s.marked := by
    funext ref
    cases ref <;> rfl
  have hcorrected : correctedOf (resetBegun s cold) found = correctedOf s found := by
    funext ref
    unfold correctedOf
    rw [hmarked]
    rfl
  have hleft : flipsLeft (resetBegun s cold) allRecords = s.memory.flips.filter (fun f => s.marked f.ref) := by
    unfold flipsLeft
    rw [hmarked]
    refine List.filter_congr fun f _ => ?_
    simp [mem_allRecords]
  have hscan := foldl_scanRecord (s := resetBegun s cold) (found := found) rfl rfl hfew (hmarked ▸ hfound) allRecords_nodup
  rw [hscan, hleft, hcorrected, scanCauses, hcorrected]
  rw [← withScan_flips, rewriteFound_allRecords]
  rfl

/-- R187: a reset of an image in which no word holds more than two flipped bits. -/
theorem resetPart_scanned : s.resetPart cold none =
    withScan (s.memory.flips.filter (fun f => s.marked f.ref)) (allRecords.flatMap (correctedOf s found)).length
      (scanCauses s found allRecords)
      (State.resetPart { s with memory := rewrittenImage found s.memory } cold none) :=
  resetPart_of_scan (v := { s with memory := rewrittenImage found s.memory }) cold rfl
    (scan_resetBegun cold hfew hfound) fun _ hf => rewrittenImage_marked (List.mem_filter.mp hf).2

end

/-- R177, R187: the attention logic after a reset of a clean image. -/
theorem resetPart_attention {s : State} (cold : Bool) (hc : s.clean) : (s.resetPart cold none).attention =
    { latched :=
        if s.memory.geometry.damaged = true ∨ (∃ j : JobSlot, s.memory.jobRecs[j].state = .damaged) ∨
            (∃ l : Lane, s.memory.laneRecs[l].damaged = true) ∨
            (∃ c : CounterNo, s.memory.counterRecs[c].damaged = true) then
          Attention.recordDamaged.set
        else 0
      enabled := 0x0FFF
      qualityStop := false } := by
  have hattention := congrArg State.attention (resetPart_rest cold hc)
  rw [← resetPart_latched cold hc]
  refine hattention.trans ?_
  rw [hattention]

/-- Settles O51: the scan leaves an image in which the other steps run as on a clean one, and each part of what these leave
is given by its own rule. -/
theorem resetSequenceRestoresVolatileState : Obligations.ResetSequenceRestoresVolatileState := by
  unfold Obligations.ResetSequenceRestoresVolatileState
  refine ⟨?scan, ?clean, rfl⟩
  case scan =>
    intro s v cold found fixed flipped _ hflipped hfound hnodup hfixed hv u hu
    have hlength (ref : RecordRef) (w : Nat) : (s.wordFlips ref w).length = flipped ref w := by
      rw [State.wordFlips, List.length_map, (hflipped ref w).1]
      refine congrArg List.length (List.filter_congr fun f _ => ?_)
      rw [Bool.eq_iff_iff]
      simp
    have hfew (ref : RecordRef) (w : Nat) : (s.wordFlips ref w).length ≤ 2 := hlength ref w ▸ (hflipped ref w).2
    have hcount := length_corrected (s := s) (found := found) hnodup fun ref w => by rw [hfixed, hlength]
    have hcauses : scanCauses s found allRecords =
        (if allRecords.any found then Attention.recordDamaged.set else 0) |||
          (if fixed = [] then 0 else Attention.recordCorrected.set) := by
      rw [scanCauses, hcount]
      unfold causeWhen
      cases fixed <;> simp
    have himage : v = { s with memory := rewrittenImage found s.memory } := hv
    rw [resetPart_scanned cold hfew (by simpa only [hlength] using hfound), hcount, hcauses, ← himage, ← hu]
    unfold withScan
    rw [← BitVec.or_assoc]
  case clean =>
    intro s t cold hc ht
    rw [← ht]
    have hrest := resetPart_rest cold hc
    have hmemory := congrArg State.memory hrest
    refine ⟨congrArg State.position hrest, congrArg State.ring hrest, congrArg State.verdict hrest,
      congrArg State.register hrest, congrArg State.backLandings hrest, congrArg State.modes hrest,
      resetPart_attention cold hc, resetPart_settings cold hc, congrArg State.pfail hrest,
      (congrArg RecordMemory.geometry hmemory).trans rfl, (congrArg RecordMemory.laneRecs hmemory).trans rfl,
      (congrArg RecordMemory.counterRecs hmemory).trans rfl, (congrArg RecordMemory.flips hmemory).trans hc,
      congrArg RecordMemory.damagedSet hmemory, congrArg RecordMemory.scrub hmemory,
      congrArg RecordMemory.trimToSave hmemory, congrArg RecordMemory.corrected hmemory, resetPart_jobs cold hc,
      resetPart_counters cold hc, fun l _ hruns => resetPart_lane cold hc l hruns⟩

end Sys2Proof.Proofs
end
